-- ==== Sys2Proof/Word.lean ====
section
/-! DEFINITION. The plain arithmetic of the EC4160: bytes, digests, head and channel numbers, and the
numeric bounds of Table 1-1 and of the rules. The part counts in exact integers (R23), so counts are `Nat`;
only what the wire or the CRC treats as bits is a bit vector. -/

namespace Sys2Proof

/-- One byte of a frame or of a payload. -/
abbrev Byte := BitVec 8

/-- A CRC-32 value: the digest of R140 and the frame check of R180. -/
abbrev Digest := BitVec 32

/-- A head link number, 0 to 3. -/
abbrev HeadId := Fin 4

/-- A duplication channel number, 0 to 3. -/
abbrev ChanId := Fin 4

/-- The four numbers of heads and of channels, ascending. -/
def four : List (Fin 4) := [0, 1, 2, 3]

/-- R140: 131,072 bytes in an extent payload. -/
def payloadBytes : Nat := 131072
/-- Table 1-1: the capacity range of a pool. -/
def minCapacity : Nat := 1024
def maxCapacity : Nat := 134217728
/-- R5: the pool has 64 zones. -/
def zoneCount : Nat := 64
/-- R15: the ring of the change journal holds 4,194,304 entries. -/
def ringSize : Nat := 4194304
/-- R17: sequence numbers have 48 bits. -/
def seqLimit : Nat := 281474976710656
/-- R68: the greatest open epoch. -/
def maxEpoch : Nat := 4294967295
/-- R40, R123, R133: statistics and carry counts saturate here; R121: the pass counter wraps after it. -/
def maxCount : Nat := 4294967295
/-- R175: the upper end of the wall clock. -/
def clockMax : Nat := 1099511627775
/-- R113: seconds in a day. -/
def daySeconds : Nat := 86400

/-- Chapter 1, 1.8: a clamped value is replaced by the nearest value of its range. -/
def clamp (lo hi x : Nat) : Nat := min hi (max lo x)

/-- Chapter 1, 1.8: a saturating sum. -/
def satAdd (x k : Nat) : Nat := min maxCount (x + k)

/-- ceil(a / b). -/
def ceilDiv (a b : Nat) : Nat := (a + (b - 1)) / b

end Sys2Proof
end

