-- ==== Sys2Proof/Syntax.lean ====
section
/-! DEFINITION. The commands of the EC4160: one constructor of `Instr` for each row of the table of operations and
events, and the requests that wait in the link queues. -/

namespace Sys2Proof

/-- Where a request comes from and its reply goes: a head link or the management link. -/
inductive Link where
  | head (h : HeadId)
  | mgmt
  deriving DecidableEq, Repr

/-- R96: the mode of a restore. The wire byte is kept: 0 is ALL_OR_NONE, 1 is AS_FITS, any other value is refused
BAD_ARGUMENT at the RESTORE's turn (R181). -/
abbrev ModeByte := Nat

/-- R96: what a RESTORE carries, its tag apart. -/
structure RestoreRequest where
  target  : Nat
  source  : Option Nat
  volume  : Nat
  epoch   : Nat
  mode    : ModeByte
  extents : List Nat
  deriving DecidableEq, Repr

/-- The kinds of account (R18). -/
inductive AccountKind where
  | person
  | group
  deriving DecidableEq, Repr

/-- R35: the settings a CREATE_ACCOUNT or SET_LIMITS carries. Those not belonging to the account's kind are ignored. -/
structure AccountSettings where
  hard    : Option Nat
  soft    : Option Nat
  grace   : Nat
  percent : Nat
  service : Bool
  deriving DecidableEq, Repr

/-- R65, R66: the four settings of a volume as a request carries them. -/
structure VolumeRequest where
  keep    : Nat
  spacing : Nat
  nightly : Bool
  channel : Nat
  deriving DecidableEq, Repr

/-- Table 8-2: the six channel settings. -/
structure ChannelSettings where
  enable          : Bool
  windowOverride  : Bool
  responseTimeout : Nat
  probeInterval   : Nat
  tailReserve     : Nat
  stopOnIntegrity : Bool
  deriving DecidableEq, Repr

/-- R173: the seven tables of the table cursor. -/
inductive CursorTable where
  | account
  | volume
  | snapshot
  | extent
  | journal
  | reservation
  | channel
  deriving DecidableEq, Repr

/-- R161: what a SET_HEADS carries. -/
structure HeadsRequest where
  mask         : BitVec 4
  detectCode   : Nat
  barred       : Bool
  selectAccount : Bool
  selectSealed : Bool
  zoneStart    : Option Nat
  deriving DecidableEq, Repr

/-- R164: the qualifier of an arbitration entry. -/
inductive Qualifier where
  | any
  | update
  | lookup
  deriving DecidableEq, Repr

/-- R167: the two arbitration sets. -/
inductive SetName where
  | day
  | night
  deriving DecidableEq, Repr

/-- R169: an entry as LOAD_ARBITER carries it; `none` is an unknown qualifier. -/
structure EntryRequest where
  agent     : Nat
  qualifier : Option Qualifier
  deriving DecidableEq, Repr

/-- The requests that wait in a request queue for a table turn (R156, R171). -/
inductive Request where
  | reserve (account volume want minimum : Nat)
  | commit (slot generation count : Nat)
  | returnSlot (slot generation : Nat)
  | release (account volume : Nat) (extents : List Nat)
  | seal (volume label : Nat)
  | restore (r : RestoreRequest)
  | cancelRestore (restoreTag : Nat)
  | queryAccount (account : Nat)
  | queryVolume (volume : Nat)
  | status
  | restart
  | format (capacity floor : Nat)
  | setClock (value : Nat)
  | setCursor (table : Option CursorTable) (position epoch : Nat)
  | cursorRead (count : Nat) (advance clear : Bool)
  | createAccount (account : Nat) (kind : AccountKind) (settings : AccountSettings) (parent : Option Nat)
  | setLimits (account : Nat) (settings : AccountSettings)
  | setParent (account : Nat) (parent : Option Nat)
  | deleteAccount (account : Nat)
  | setGraceHold (on : Bool)
  | setFloor (floor : Nat)
  | setReservationHold (seconds : Nat)
  | createVolume (volume : Nat) (settings : VolumeRequest)
  | setVolume (volume : Nat) (settings : VolumeRequest)
  | deleteVolume (volume : Nat)
  | expire (volume epoch : Nat)
  | setPoolSpacing (seconds : Nat)
  | setWindow (openTime closeTime : Nat)
  | startPass (volume : Nat) (target : Option Nat)
  | withdrawPass (volume : Nat)
  | setChannel (channel : Nat) (settings : ChannelSettings)
  | setSplit (code : Nat)
  | resume (channel : Nat)
  | clear (channel : Nat)
  | cancelPass (channel : Nat)
  | setHeads (r : HeadsRequest)
  | loadArbiter (set : Option SetName) (slots priority : List EntryRequest)
  | queryArbiter
  deriving DecidableEq, Repr

/-- A frame as it arrives on the management link. Chapter 12 gives the envelope of every frame and the bodies of the
kinds 0x14 to 0x18; `raw` is such a frame, byte for byte. The bodies of the kinds 0x40 to 0x5C are not laid out by the
manual: `items` is a frame of the management link given by whether R180 finds it good, its kind, its tag, and the items
its request carries (`none`: a kind unknown on the link, or a body of the wrong length). -/
inductive MgmtFrame where
  | raw (bytes : List Byte)
  | items (good : Bool) (kind : Byte) (tag : Nat) (request : Option Request)
  deriving DecidableEq, Repr

/-- What the pool port returns for a read (R138). -/
inductive ReadResult where
  | payload (bytes : List Byte)
  | fault
  deriving DecidableEq, Repr

/-- The commands: one constructor for each row of the table of operations and events. A command that stands for a
table turn names the link whose request is taken, the request's tag and the items the request carries; it is that
turn when the arbiter grants it (`Machine/Turns.lean`). A command that stands for a frame carries the frame's bytes. -/
inductive Instr where
  | powerOn
  | mainSupplyLoss
  | wallClockTick
  | join (h : HeadId) (frame : List Byte)
  | leave (h : HeadId) (frame : List Byte)
  | keep (h : HeadId) (frame : List Byte)
  | noticeRead (link : Link) (frame : List Byte)
  | headRequestArrival (h : HeadId) (frame : List Byte)
  | managementRequestArrival (frame : MgmtFrame)
  | detectExpiry (h : HeadId)
  | lossCleanup (h : HeadId)
  | reserve (h : HeadId) (tag account volume want minimum : Nat)
  | commit (h : HeadId) (tag slot generation count : Nat)
  | returnSlot (h : HeadId) (tag slot generation : Nat)
  | reservationDeadlineExpiry
  | reservationLapse
  | release (h : HeadId) (tag account volume : Nat) (extents : List Nat)
  | seal (link : Link) (tag volume label : Nat)
  | sealOperation
  | walkStep
  | restore (link : Link) (tag : Nat) (r : RestoreRequest)
  | restoreStep
  | cancelRestore (link : Link) (tag restoreTag : Nat)
  | queryAccount (link : Link) (tag account : Nat)
  | queryVolume (link : Link) (tag volume : Nat)
  | status (tag : Nat)
  | restart (tag : Nat)
  | format (tag capacity floor : Nat)
  | setClock (tag value : Nat)
  | setCursor (tag : Nat) (table : Option CursorTable) (position epoch : Nat)
  | cursorRead (tag count : Nat) (advance clear : Bool)
  | createAccount (tag account : Nat) (kind : AccountKind) (settings : AccountSettings) (parent : Option Nat)
  | setLimits (tag account : Nat) (settings : AccountSettings)
  | setParent (tag account : Nat) (parent : Option Nat)
  | deleteAccount (tag account : Nat)
  | setGraceHold (tag : Nat) (on : Bool)
  | setFloor (tag floor : Nat)
  | setReservationHold (tag seconds : Nat)
  | createVolume (tag volume : Nat) (settings : VolumeRequest)
  | setVolume (tag volume : Nat) (settings : VolumeRequest)
  | deleteVolume (tag volume : Nat)
  | expire (tag volume epoch : Nat)
  | setPoolSpacing (tag seconds : Nat)
  | setWindow (tag openTime closeTime : Nat)
  | startPass (tag volume : Nat) (target : Option Nat)
  | withdrawPass (tag volume : Nat)
  | setChannel (tag channel : Nat) (settings : ChannelSettings)
  | setSplit (tag code : Nat)
  | resume (tag channel : Nat)
  | clear (tag channel : Nat)
  | cancelPass (tag channel : Nat)
  | setHeads (tag : Nat) (r : HeadsRequest)
  | loadArbiter (tag : Nat) (set : Option SetName) (slots priority : List EntryRequest)
  | queryArbiter (tag : Nat)
  | graceDeadlineExpiry
  | graceLapse
  | windowChangeDetect
  | windowEvent
  | passStart
  | evaluationStep
  | passCompletion
  | frameSend
  | transmissionEnd
  | accept (frame : List Byte)
  | defer (frame : List Byte)
  | refuse (frame : List Byte)
  | ready (frame : List Byte)
  | unknownOffsiteFrame (frame : List Byte)
  | responseTimeout (c : ChanId)
  | probeDue (c : ChanId)
  | poolReadIssue
  | poolReadCompletion (c : ChanId) (slot passId : Nat) (result : ReadResult)
  | startScanEnd
  | backupSupplyLoss
  deriving DecidableEq, Repr

end Sys2Proof
end

