-- ==== Sys2Proof/Decode.lean ====
section
/-! DEFINITION. The table of operations and events gives no row any bits: its commands are events, frames and table
turns, not instruction words. The bytes of the frames, and their decoding, are in `Machine/Frames.lean`. -/

namespace Sys2Proof

/-- The command that a word spells by the table's bits. No row has bits, so no word spells a command. -/
def decodeTableWord (_nbits _w : Nat) : Option Instr := none

end Sys2Proof
end

