-- ==== Sys2Proof/Machine/State.lean ====
section
/-! DEFINITION. The state of the EC4160: table memory, the wall clock, the state held in the part, and the messages
the part sends. Plain data throughout. -/

namespace Sys2Proof.Machine

/-! ## Tables

A table is a list of numbered records with strictly rising numbers. What an unlisted number means is said at each
field: FREE for an extent, undefined for an account, ABSENT for a volume, not waiting for an agent. -/

/-- A sparse table: numbers strictly rising. -/
abbrev Table (α : Type) := List (Nat × α)

/-- Four like things, one for each head or each channel. -/
structure Quad (α : Type) where
  a0 : α
  a1 : α
  a2 : α
  a3 : α
  deriving DecidableEq, Repr

/-- A run of consecutive extents: the first extent and the length (Table 3-1). -/
structure Run where
  first  : Nat
  length : Nat
  deriving DecidableEq, Repr

/-! ## Outcome codes -/

/-- R185, Table 12-9: the outcome codes. -/
inductive Code where
  | ok | pending | badArgument | notReady | busy | tagInUse | stale | barred
  | noAccount | notPerson | notGroup | exists_ | groupsFull | notEmpty | activeSet
  | ownLimit | groupLimit | poolLimit | fragmented | slotsFull | unknownReservation | tooLate
  | noVolume | full | epochExhausted | notLive | contextsFull | unknownRestore | cancelled
  | notNewer | noEntry | notIdle | notStopped | notResumable | noPass
  deriving DecidableEq, Repr

/-! ## Extents and the pool (Chapter 1) -/

/-- R1, Table 1-7: the record of an extent that is not FREE; each state carries exactly the fields it has. -/
inductive Extent where
  | reserved (volume owner head slot generation : Nat)
  | live (volume owner birth ship : Nat)
  | retained (volume owner birth ship death : Nat) (pred succ : Option Nat)
  deriving DecidableEq, Repr

/-- R5 to R8, R11: the pool figures and the extent table. -/
structure Pool where
  /-- N. -/
  capacity : Nat
  /-- K. -/
  floor    : Nat
  /-- F. -/
  free     : Nat
  /-- The free count of each of the 64 zones. -/
  zoneFree : List Nat
  /-- An extent index below N that is not listed is FREE. -/
  extents  : Table Extent
  deriving DecidableEq, Repr

/-- R12: the kinds of journal entry. -/
inductive JournalKind where
  | birth
  | death
  deriving DecidableEq, Repr

/-- R12, Table 1-10: a journal entry. -/
structure JournalEntry where
  seq     : Nat
  kind    : JournalKind
  volume  : Nat
  first   : Nat
  count   : Nat
  epoch   : Nat
  /-- DEATH only. -/
  oldShip : Option Nat
  deriving DecidableEq, Repr

/-- R12, R15: the change journal: its entries from O to A − 1 in order, A and O. -/
structure Journal where
  entries : List JournalEntry
  append  : Nat
  oldest  : Nat
  deriving DecidableEq, Repr

/-! ## Accounts (Chapter 2) -/

/-- R21: the four figures of an account, or the aggregates of a group. -/
structure Figures where
  used     : Nat
  pending  : Nat
  hold     : Nat
  retained : Nat
  deriving DecidableEq, Repr

/-- R40: the five statistics. -/
structure Stats where
  grants      : Nat
  shortGrants : Nat
  refusals    : Nat
  releases    : Nat
  restoresIn  : Nat
  deriving DecidableEq, Repr

/-- R31: the quota state of a person; the grace deadline exists in OVER_SOFT only. -/
inductive Quota where
  | under
  | overSoft (deadline : Nat)
  | lapsed
  deriving DecidableEq, Repr

/-- R31: the name of a quota state, without the grace deadline. -/
inductive QuotaName where
  | under
  | overSoft
  | lapsed
  deriving DecidableEq, Repr

/-- R19: the part of an account record that a PERSON has. -/
structure Person where
  parent  : Option Nat
  service : Bool
  hard    : Nat
  soft    : Option Nat
  grace   : Nat
  quota   : Quota
  deriving DecidableEq, Repr

/-- R20: the part of an account record that a GROUP has. -/
structure Group where
  hard    : Option Nat
  members : Nat
  deriving DecidableEq, Repr

/-- R18: the two kinds of account record. -/
inductive AccountBody where
  | person (p : Person)
  | group (g : Group)
  deriving DecidableEq, Repr

/-- R18, Table 2-1: an account record. -/
structure Account where
  body    : AccountBody
  percent : Nat
  figures : Figures
  stats   : Stats
  deriving DecidableEq, Repr

/-! ## Volumes and snapshots (Chapter 4) -/

/-- R76: the state of a snapshot. -/
inductive SnapState where
  | live
  | expiring
  deriving DecidableEq, Repr

/-- R76, Table 4-4: a snapshot record. -/
structure Snapshot where
  epoch         : Nat
  sealTime      : Nat
  label         : Nat
  state         : SnapState
  pins          : Nat
  expirePending : Bool
  mark          : Nat
  deriving DecidableEq, Repr

/-- R63, Table 4-1: an ACTIVE volume record. -/
structure Volume where
  openEpoch   : Nat
  lastSeal    : Option Nat
  keep        : Nat
  spacing     : Nat
  nightly     : Bool
  channel     : ChanId
  shippedBase : Nat
  shipMark    : Nat
  needsRebase : Bool
  held        : Nat
  chainHead   : Option Nat
  chainTail   : Option Nat
  chainCount  : Nat
  catalogue   : List Snapshot
  deriving DecidableEq, Repr

/-- R69: who waits for a seal. -/
inductive Waiter where
  | head (h : HeadId) (incarnation tag : Nat)
  | mgmt (tag : Nat)
  | nightly
  deriving DecidableEq, Repr

/-- R69: an entry of the seal queue. -/
structure SealEntry where
  volume  : Nat
  label   : Nat
  waiters : List Waiter
  deriving DecidableEq, Repr

/-- R87: the walk in progress. -/
structure Walk where
  volume    : Nat
  epoch     : Nat
  position  : Option Nat
  endMarker : Option Nat
  finished  : Bool
  visited   : Nat
  freed     : Nat
  deriving DecidableEq, Repr

/-- R71: what the epoch unit's last SN turn was spent on. -/
inductive SnWork where
  | sealOp
  | walkStep
  deriving DecidableEq, Repr

/-- The epoch unit's state held in the part. -/
structure Epu where
  /-- R69: in order of creation. -/
  sealQueue   : List SealEntry
  /-- R80: (volume, epoch), in the order they became EXPIRING. -/
  expiryQueue : List (Nat × Nat)
  walk        : Option Walk
  lastTurn    : SnWork
  deriving DecidableEq, Repr

/-! ## Restores (Chapter 6) -/

/-- R99, R102, R104, Table 12-5: the marks of a place. -/
inductive Mark where
  | unclassified
  | heldLive
  | heldRetained
  | notHeld
  | inUse
  | overQuota
  | relinked
  | alreadyLive
  deriving DecidableEq, Repr

/-- R97: who submitted a restore. -/
inductive Submitter where
  | head (h : HeadId) (incarnation : Nat)
  | mgmt
  deriving DecidableEq, Repr

/-- R96: the two modes of a restore. -/
inductive RestoreMode where
  | allOrNone
  | asFits
  deriving DecidableEq, Repr

/-- R98, Table 6-3: the stages of a restore context. -/
inductive Stage where
  | verify
  | charge
  | relink
  deriving DecidableEq, Repr

/-- R97: the charge result: the headroom and the limiting term, if any. -/
structure ChargeResult where
  headroom : Nat
  limiting : Option Code
  deriving DecidableEq, Repr

/-- R97: a place of the extent list. -/
structure Place where
  extent : Nat
  mark   : Mark
  deriving DecidableEq, Repr

/-- R97, Table 6-2: a restore context. -/
structure Context where
  id        : Nat
  submitter : Submitter
  tag       : Nat
  target    : Nat
  source    : Option Nat
  volume    : Nat
  epoch     : Nat
  mode      : RestoreMode
  places    : List Place
  stage     : Stage
  cursor    : Nat
  admitted  : Nat
  hold      : Nat
  charge    : Option ChargeResult
  cancel    : Bool
  deriving DecidableEq, Repr

/-- R98: the restore sequencer's state. -/
structure Rsq where
  /-- The contexts in use, in order of acceptance. -/
  contexts : List Context
  /-- The id of the context to be served next; `none` names the front of the list. -/
  service  : Option Nat
  deriving DecidableEq, Repr

/-! ## Duplication (Chapters 7 and 8) -/

/-- R122: the mode of a pass. -/
inductive PassMode where
  | delta
  | rebase
  deriving DecidableEq, Repr

/-- Figure 7-1: the phase of a pass. -/
inductive Phase where
  | open_
  | body
  | close
  deriving DecidableEq, Repr

/-- R124: what a stalled pass waits for. -/
inductive Stall where
  | none
  | slot
  | flush
  deriving DecidableEq, Repr

/-- R121, R125, R129: a pass. In DELTA, `cursor` is the journal cursor and `offset` the run offset; in REBASE,
`cursor` is the sweep cursor. -/
structure Pass where
  id      : Nat
  volume  : Nat
  base    : Nat
  target  : Nat
  mode    : PassMode
  phase   : Phase
  cursor  : Nat
  offset  : Nat
  endMark : Option Nat
  carries : Nat
  drops   : Nat
  stall   : Stall
  /-- R139: the frame sequence. -/
  seq     : Nat
  /-- R131: the ACCEPT of CLOSE_PASS has been received. -/
  closeAccepted : Bool
  deriving DecidableEq, Repr

/-- R123: an item of the stream queue. -/
inductive StreamItem where
  | openPass
  | carry (extent epoch slot : Nat)
  | drop (extents : List Nat)
  | closePass (carries drops : Nat)
  deriving DecidableEq, Repr

/-- R137: a staging slot. -/
inductive StagingSlot where
  | empty
  | filling (extent passId : Nat)
  | full (extent passId : Nat) (payload : List Byte) (digest : Digest)
  | faulted (extent passId : Nat)
  deriving DecidableEq, Repr

/-- R133: the condition of a channel, with the reason byte for REFUSED. -/
inductive Condition where
  | none
  | noStaging
  | journalLost
  | refused (reason : Byte)
  | retryLimit
  | integrity
  | sourceFault
  | cancelled
  deriving DecidableEq, Repr

/-- R133: the state a suspended channel returns to. -/
inductive Previous where
  | streaming
  | probing
  deriving DecidableEq, Repr

/-- R135, Table 8-3: the state of a channel. -/
inductive ChannelState where
  | idle
  | streaming
  | probing
  | suspended (previous : Previous)
  | stopped
  deriving DecidableEq, Repr

/-- R139: the outstanding frame: a PROBE or the pending frame, with the pass id and sequence it was sent with. -/
structure Outstanding where
  probe  : Bool
  passId : Nat
  seq    : Nat
  deriving DecidableEq, Repr

/-- R133: the channel statistics. -/
structure ChannelStats where
  carries   : Nat
  drops     : Nat
  failures  : Nat
  defers    : Nat
  integrity : Nat
  deriving DecidableEq, Repr

/-- R133, Table 8-1: a channel record. -/
structure Channel where
  state          : ChannelState
  suspendPending : Bool
  pass           : Option Pass
  queue          : List StreamItem
  batch          : List Nat
  /-- The outstanding flag is SET when this is present. -/
  outstanding    : Option Outstanding
  deadline       : Option Nat
  probeDue       : Option Nat
  failures       : Nat
  condition      : Condition
  staging        : List StagingSlot
  settings       : ChannelSettings
  stats          : ChannelStats
  /-- R116: (volume, target), in order of creation. -/
  passQueue      : List (Nat × Nat)
  deriving DecidableEq, Repr

/-- R138: a read of the pool read queue or in flight. -/
structure PoolRead where
  channel : ChanId
  slot    : Nat
  extent  : Nat
  passId  : Nat
  reread  : Bool
  deriving DecidableEq, Repr

/-- R142: the frame being transmitted, with the channel's response timeout at its sending (Table 8-2). -/
structure Transmission where
  channel : ChanId
  frame   : Outstanding
  timeout : Nat
  deriving DecidableEq, Repr

/-- The duplication unit's state that belongs to no one channel. -/
structure Dpu where
  /-- R138. -/
  readQueue    : List PoolRead
  inFlight     : List PoolRead
  /-- R142: the frame on the offsite link. -/
  transmission : Option Transmission
  /-- R142: the last channel that sent. -/
  lastSent     : ChanId
  /-- R120: the channel the unit served last. -/
  lastServed   : ChanId
  deriving DecidableEq, Repr

/-! ## Heads and the management link (Chapters 9 and 11) -/

/-- R42: the state of a reservation slot. -/
inductive SlotState where
  | open_
  | lapsed
  deriving DecidableEq, Repr

/-- R42, Table 3-1: the fields of an OPEN or LAPSED slot. -/
structure Reservation where
  state    : SlotState
  account  : Nat
  volume   : Nat
  runs     : List Run
  granted  : Nat
  cursor   : Nat
  deadline : Nat
  deriving DecidableEq, Repr

/-- R42: a reservation slot; FREE when it holds no reservation. -/
structure Slot where
  generation  : Nat
  reservation : Option Reservation
  deriving DecidableEq, Repr

/-- R151: the state of a head link. -/
inductive LinkState where
  | down
  | up
  | lost
  deriving DecidableEq, Repr

/-- R158: the cause of a loss. -/
inductive Cause where
  | leave
  | detect
  | rejoin
  deriving DecidableEq, Repr

/-- R158, R159: a loss whose cleanup is pending: its cause and the incarnation that was lost. -/
structure Loss where
  cause       : Cause
  incarnation : Nat
  deriving DecidableEq, Repr

/-- R156: a request in a request queue, with the incarnation it carried (0 on the management link). -/
structure Queued where
  incarnation : Nat
  tag         : Nat
  request     : Request
  deriving DecidableEq, Repr

/-- The notices of the part (R179 lists their kinds). -/
inductive Notice where
  /-- R32: the grace deadline goes with a new state OVER_SOFT only. -/
  | accountState (account : Nat) (previous : QuotaName) (next : Quota) (standing soft : Nat)
  /-- R74. -/
  | sealed (volume epoch sealTime label : Nat)
  /-- R55. -/
  | reservationLapsed (slot generation account committed returned : Nat)
  /-- R159. -/
  | headDown (h : HeadId) (cause : Cause) (incarnation reservations extents waiters contexts : Nat)
  /-- R91. -/
  | walkDone (volume epoch visited freed : Nat)
  /-- R16. -/
  | journalLost (channel : ChanId) (volume passId : Nat)
  /-- R17. -/
  | journalRestart
  /-- R135. -/
  | channelStopped (channel : ChanId) (passId volume : Nat) (condition : Condition)
  /-- R131. -/
  | passDone (channel : ChanId) (volume passId : Nat) (mode : PassMode) (base carries drops : Nat)
  /-- R121. -/
  | passSkipped (channel : ChanId) (volume target : Nat)
  /-- R70, R73. -/
  | nightlySkipped (volume : Nat) (code : Code)
  /-- R177; `powerOn` tells the cause POWER_ON from RESTART. -/
  | startDone (powerOn clockSet : Bool) (capacity freed expiring : Nat)
  deriving DecidableEq, Repr

/-- R151, Table 9-1, R8, R42: a head link unit with its head context, allocation cursor and reservation slots. -/
structure Head where
  link          : LinkState
  incarnation   : Nat
  cleanup       : Option Loss
  /-- The running detect timer's period in half seconds; `none` while stopped. -/
  detect        : Option Nat
  detectCode    : Nat
  barred        : Bool
  selectAccount : Bool
  selectSealed  : Bool
  requests      : List Queued
  tags          : List Nat
  notices       : List Notice
  missed        : Bool
  /-- R8: the cursor's zone and position. -/
  zone          : Nat
  position      : Nat
  slots         : List Slot
  deriving DecidableEq, Repr

/-- R171, R173: the management link unit. -/
structure Mlu where
  requests    : List Queued
  tags        : List Nat
  notices     : List Notice
  missed      : Bool
  cursorTable : CursorTable
  cursorPos   : Nat
  /-- The epoch of a SNAPSHOT position. -/
  cursorEpoch : Nat
  deriving DecidableEq, Repr

/-! ## Table arbitration (Chapter 10) -/

/-- R164: an entry of a slot table or a priority list. -/
structure ArbEntry where
  agent     : Nat
  qualifier : Qualifier
  deriving DecidableEq, Repr

/-- R167: an arbitration set. -/
structure ArbSet where
  slots    : List ArbEntry
  priority : List ArbEntry
  deriving DecidableEq, Repr

/-- R163: the class of an operation. -/
inductive OpClass where
  | update
  | lookup
  deriving DecidableEq, Repr

/-- R120: the table work of a channel. -/
inductive DpWork where
  | start
  | evaluate
  | complete
  deriving DecidableEq, Repr

/-- R33, R54, R114: the operations of agent CK. -/
inductive CkWork where
  | window
  | lapse (h : HeadId) (slot generation : Nat)
  | grace (account : Nat)
  deriving DecidableEq, Repr

/-- What a presented operation is. A head's or the management link's operation is the front of its queue at the turn
(or the loss cleanup); a restore step's context is chosen at the turn (R98). -/
inductive Work where
  | link
  | restoreStep
  | sn (w : SnWork)
  | dp (c : ChanId) (w : DpWork)
  | ck (w : CkWork)
  deriving DecidableEq, Repr

/-- R162, R166: a waiting operation. -/
structure Waiting where
  cls  : OpClass
  age  : Nat
  work : Work
  deriving DecidableEq, Repr

/-- R165, R166: the arbiter's state held in the part. -/
structure Arbiter where
  slotPointer : Nat
  roundRobin  : Nat
  /-- By agent number 0 to 8; an unlisted agent has no operation waiting. -/
  waiting     : Table Waiting
  /-- MODEL's own field: counts the free choices the step has made (R163, "in any order"). -/
  choices     : Nat
  deriving DecidableEq, Repr

/-! ## Clock and settings -/

/-- R113: the window state. -/
inductive WindowState where
  | open_
  | closed
  deriving DecidableEq, Repr

/-- R113, R175: the clock unit. -/
structure Clock where
  now        : Nat
  isSet      : Bool
  window     : WindowState
  /-- R114: the clock at which the window given was last found to differ from the window state. -/
  windowDue  : Option Nat
  /-- R175: the backup supply has been lost since the last power-on. -/
  backupLost : Bool
  deriving DecidableEq, Repr

/-- The settings made through the management link that belong to no one head or channel, and the two values kept
with them: the pool's last seal time (R72) and the pass counter (R121). -/
structure Settings where
  reservationHold : Nat
  poolSpacing     : Nat
  poolLastSeal    : Option Nat
  graceHold       : Bool
  graceStart      : Nat
  windowOpen      : Nat
  windowClose     : Nat
  split           : Nat
  passCounter     : Nat
  day             : ArbSet
  night           : ArbSet
  deriving DecidableEq, Repr

/-- R177: how the part stands. A start scan carries its cause. -/
inductive PartState where
  | off
  | starting (powerOn : Bool)
  | running
  deriving DecidableEq, Repr

/-! ## What the part sends -/

/-- R107, Table 12-5: the reply of a restore that has ended. -/
structure RestoreReply where
  id       : Nat
  outcome  : Code
  charge   : Option ChargeResult
  admitted : Nat
  places   : List Place
  deriving DecidableEq, Repr

/-- R39: the admission terms a QUERY_ACCOUNT shows. -/
structure Terms where
  own   : Nat
  group : Option Nat
  pool  : Nat
  deriving DecidableEq, Repr

/-- R39: the reply of QUERY_ACCOUNT: the kind, settings, figures, member count and quota state of the record, its
retention charge, the standing use of a person or the effective use of a group, and a person's admission terms. The
statistics are not among them. -/
structure AccountReply where
  account : Nat
  body    : AccountBody
  percent : Nat
  figures : Figures
  charge  : Nat
  use     : Nat
  terms   : Option Terms
  deriving DecidableEq, Repr

/-- R81: the reply of QUERY_VOLUME: the fields of Table 4-1 but the chain's head and tail, the catalogue, and the
number of waiters of the volume's seal-queue entry. -/
structure VolumeReply where
  volume      : Nat
  openEpoch   : Nat
  lastSeal    : Option Nat
  keep        : Nat
  spacing     : Nat
  nightly     : Bool
  channel     : ChanId
  shippedBase : Nat
  shipMark    : Nat
  needsRebase : Bool
  held        : Nat
  chainCount  : Nat
  catalogue   : List Snapshot
  waiters     : Option Nat
  deriving DecidableEq, Repr

/-- R172: a channel in the STATUS reply. -/
structure ChannelStatus where
  state     : ChannelState
  condition : Condition
  passId    : Option Nat
  deriving DecidableEq, Repr

/-- R172: a head in the STATUS reply. -/
structure HeadStatus where
  link        : LinkState
  incarnation : Nat
  cleanup     : Option Cause
  requests    : Nat
  notices     : Nat
  barred      : Bool
  deriving DecidableEq, Repr

/-- R172, Table 11-2: the STATUS reply after start-up. -/
structure StatusReply where
  now             : Nat
  clockSet        : Bool
  capacity        : Nat
  free            : Nat
  floor           : Nat
  append          : Nat
  oldest          : Nat
  sealEntries     : Nat
  expiring        : Nat
  /-- Volume, epoch, visited and freed. -/
  walk            : Option (Nat × Nat × Nat × Nat)
  contexts        : Nat
  cancelling      : Nat
  window          : WindowState
  windowLeft      : Nat
  windowOpen      : Nat
  windowClose     : Nat
  channels        : Quad ChannelStatus
  split           : Nat
  inFlight        : Nat
  passCounter     : Nat
  heads           : Quad HeadStatus
  graceHold       : Bool
  graceStart      : Nat
  reservationHold : Nat
  poolSpacing     : Nat
  activeSet       : SetName
  deriving DecidableEq, Repr

/-- R174: a record read through the table cursor. -/
inductive CursorRecord where
  | account (number : Nat) (record : Account)
  | volume (number : Nat) (record : Volume)
  | snapshot (volume : Nat) (record : Snapshot)
  /-- `none` is a FREE extent. -/
  | extent (index : Nat) (record : Option Extent)
  | journal (entry : JournalEntry)
  | reservation (head slot : Nat) (record : Slot)
  | channel (number : ChanId) (record : Channel)
  deriving DecidableEq, Repr

/-- R174: the reply of CURSOR_READ. The position of the first record is absent when none is returned. -/
structure CursorReply where
  table   : CursorTable
  first   : Option (Nat × Nat)
  records : List CursorRecord
  atEnd   : Bool
  deriving DecidableEq, Repr

/-- R170: the reply of QUERY_ARBITER. -/
structure ArbiterReply where
  day         : ArbSet
  night       : ArbSet
  active      : SetName
  slotPointer : Nat
  roundRobin  : Nat
  /-- For each of the nine agents, the class and age of a waiting operation. -/
  agents      : List (Option (OpClass × Nat))
  deriving DecidableEq, Repr

/-- R161: the settings a SET_HEADS reply carries. -/
structure HeadsStored where
  mask          : BitVec 4
  detectCode    : Nat
  barred        : Bool
  selectAccount : Bool
  selectSealed  : Bool
  zoneStart     : Option Nat
  deriving DecidableEq, Repr

/-- R65, R66: the settings stored for a volume. -/
structure VolumeStored where
  keep    : Nat
  spacing : Nat
  nightly : Bool
  channel : ChanId
  deriving DecidableEq, Repr

/-- The replies of the part: the outcome, and the items the rule of each request gives. -/
inductive Reply where
  /-- An outcome code with no further item. -/
  | code (c : Code)
  /-- R153: the new incarnation and the detect period in half seconds. -/
  | join (incarnation halfSeconds : Nat)
  /-- R160. -/
  | notices (missed : Bool) (list : List Notice)
  /-- Table 12-3: `slot` is slot and generation when granted. -/
  | reserve (c : Code) (slot : Option (Nat × Nat)) (count headroom : Nat) (deadline : Option Nat) (runs : List Run)
  /-- R52. -/
  | committed (count remaining : Nat)
  /-- R53. -/
  | returned (count : Nat)
  /-- R62. -/
  | released (released retained freed : Nat) (mismatch : BitVec 64)
  /-- R74. -/
  | sealed (volume epoch label : Nat)
  /-- R69: a management waiter at an accepted FORMAT: CANCELLED with the volume. -/
  | sealCancelled (volume : Nat)
  | restore (r : RestoreReply)
  | account (r : AccountReply)
  | volume (r : VolumeReply)
  /-- R172: STATUS during a start scan. -/
  | starting (now : Nat) (clockSet : Bool)
  | status (r : StatusReply)
  /-- OK with the one value stored (R7, R43, R72, R136). -/
  | stored (value : Nat)
  /-- R178. -/
  | formatted (capacity floor : Nat)
  /-- R35: OK with the stored settings of a new account; the parent group is a setting of a person. -/
  | accountCreated (s : AccountSettings) (parent : Option Nat)
  /-- R36: OK with the stored settings. -/
  | accountStored (s : AccountSettings)
  | volumeStored (s : VolumeStored)
  /-- R34. -/
  | graceHold (on : Bool)
  | window (openTime closeTime : Nat)
  /-- R176: the old value, the new value and d, absent when the flag was unset. -/
  | clock (old new : Nat) (d : Option Int)
  /-- R118: the kept target and the merged indication. -/
  | passEntered (kept : Nat) (merged : Bool)
  /-- R119: the target that was queued. -/
  | withdrawn (target : Nat)
  | channelStored (s : ChannelSettings)
  /-- R149. -/
  | cleared (passId volume : Nat)
  /-- R150. -/
  | cancelledPass (passId : Nat)
  | headsStored (s : HeadsStored)
  | cursor (r : CursorReply)
  | arbiter (r : ArbiterReply)
  deriving DecidableEq, Repr

/-- Table 8-6: a frame the part sends on the offsite link. -/
inductive OffsiteFrame where
  | openPass (passId seq volume base target : Nat) (mode : PassMode)
  | carry (passId seq extent epoch : Nat) (digest : Digest) (payload : List Byte)
  | drop (passId seq : Nat) (extents : List Nat)
  | closePass (passId seq carries drops : Nat)
  | probe (passId seq : Nat)
  deriving DecidableEq, Repr

/-- What leaves the part. -/
inductive Output where
  /-- A reply on a link: the incarnation of the request (0 on the management link), its tag and kind (R180), and its
  contents. -/
  | reply (link : Link) (incarnation tag kind : Nat) (r : Reply)
  /-- A frame on the offsite link. -/
  | frame (channel : ChanId) (f : OffsiteFrame)
  /-- A read on the pool port. -/
  | poolRead (r : PoolRead)
  deriving DecidableEq, Repr

/-! ## The machine -/

/-- Everything the manual gives the part, the messages of the last command, and the commands that wait. -/
structure State where
  part     : PartState
  clock    : Clock
  pool     : Pool
  journal  : Journal
  /-- An unlisted account number is undefined. -/
  accounts : Table Account
  /-- An unlisted volume number is ABSENT. -/
  volumes  : Table Volume
  settings : Settings
  heads    : Quad Head
  mlu      : Mlu
  epu      : Epu
  rsq      : Rsq
  channels : Quad Channel
  dpu      : Dpu
  arb      : Arbiter
  /-- MODEL's own field: what the last command sent, in order. -/
  sent     : List Output
  /-- MODEL's own field: the commands that are waiting, first in, first out. -/
  pending  : List Instr
  deriving DecidableEq, Repr

/-- No command of this block stops it: the manual gives every command an effect in every state, so no meaning raises a
fault. The type has no constructor, which is safe: no statement can rest on a fault. -/
inductive Fault where
  deriving DecidableEq, Repr

/-- Why a command is refused. -/
inductive Refusal where
  /-- Raised by an arm of `exec` whose command has no meaning yet (none is left). Safe: nothing is claimed of it. -/
  | notModelled (mnemonic : String)
  deriving DecidableEq, Repr

/-! ## Values after reset -/

/-- R42: a slot at the start scan and at FORMAT. -/
def Slot.free0 : Slot := ⟨0, none⟩

/-- R133, R134: a channel after power-on, its settings never set, with the staging slots of split code 3 (R136). -/
def Channel.reset : Channel where
  state := .idle
  suspendPending := false
  pass := none
  queue := []
  batch := []
  outstanding := none
  deadline := none
  probeDue := none
  failures := 0
  condition := .none
  staging := [.empty, .empty]
  settings := ⟨true, false, 10, 5, 600, false⟩
  stats := ⟨0, 0, 0, 0, 0⟩
  passQueue := []

/-- R151, R8, R42: a head after power-on on table memory never formatted, its cursor at the first extent of zone
`16 * h` of a pool whose zones hold 16 extents. -/
def Head.reset (h : Nat) : Head where
  link := .down
  incarnation := 0
  cleanup := none
  detect := none
  detectCode := 3
  barred := false
  selectAccount := true
  selectSealed := true
  requests := []
  tags := []
  notices := []
  missed := false
  zone := 16 * h
  position := 16 * h * 16
  slots := List.replicate 32 Slot.free0

/-- R167, Table 10-2. -/
def ArbSet.dayDefault : ArbSet where
  slots := [⟨0, .any⟩, ⟨1, .any⟩, ⟨2, .any⟩, ⟨3, .any⟩, ⟨4, .any⟩, ⟨5, .any⟩, ⟨6, .any⟩, ⟨7, .any⟩]
  priority := [⟨8, .any⟩, ⟨4, .any⟩]

/-- R167, Table 10-3. -/
def ArbSet.nightDefault : ArbSet where
  slots := [⟨7, .any⟩, ⟨0, .any⟩, ⟨7, .lookup⟩, ⟨1, .any⟩, ⟨6, .any⟩, ⟨7, .any⟩, ⟨2, .any⟩, ⟨5, .any⟩, ⟨7, .lookup⟩,
    ⟨3, .any⟩]
  priority := [⟨8, .any⟩, ⟨7, .update⟩]

/-- The part right after power-on, on table memory that has never recorded an accepted FORMAT (R11: the state that a
FORMAT with capacity 1,024 and floor 0 leaves) and a wall clock at 0, unset (R175). The start scan of R177 is in
progress. -/
def State.reset : State where
  part := .starting true
  clock := ⟨0, false, .closed, none, false⟩
  pool := ⟨1024, 0, 1024, List.replicate 64 16, []⟩
  journal := ⟨[], 0, 0⟩
  accounts := []
  volumes := []
  settings :=
    { reservationHold := 300, poolSpacing := 10, poolLastSeal := none, graceHold := false, graceStart := 0,
      windowOpen := 3600, windowClose := 21600, split := 3, passCounter := 1,
      day := ArbSet.dayDefault, night := ArbSet.nightDefault }
  heads := ⟨Head.reset 0, Head.reset 1, Head.reset 2, Head.reset 3⟩
  mlu := ⟨[], [], [], false, .account, 1, 0⟩
  epu := ⟨[], [], none, .walkStep⟩
  rsq := ⟨[], none⟩
  channels := ⟨Channel.reset, Channel.reset, Channel.reset, Channel.reset⟩
  dpu := ⟨[], [], none, 3, 3⟩
  arb := ⟨0, 8, [], 0⟩
  sent := []
  pending := []

end Sys2Proof.Machine
end

