-- ==== Sys2Proof/Config.lean ====
section
/-! DEFINITION. The values the manual leaves open. Each is a constant without a body, so no proof can see what it is. -/

namespace Sys2Proof

/-- R175 bounds a wall clock value, and the manual states no result for a deadline whose sum lies above that bound.
The argument is the exact sum (notes/assumptions/1.md). -/
opaque Config.deadlineBeyondClock : Nat → Nat

/-- R163: clock work of different kinds due at the same value is presented in any order. The first argument counts the
choices made, the second is how many kinds tie (notes/assumptions/2.md). -/
opaque Config.clockTie : Nat → Nat → Nat

/-- R180 says what a set flag bit other than bits 0 and 1 does to a frame that arrives, and not what bits 0 and 1 do:
whether such a frame is taken (notes/assumptions/3.md). -/
opaque Config.takesFlags : Byte → Bool

/-- Chapter 12 does not lay out the bodies of the management kinds 0x40 to 0x5C: the items such a body carries, or none
when its length is not its layout's (notes/assumptions/4.md). -/
opaque Config.managementBody : Byte → List Byte → Option Request

/-- R179 has an absent field sent as the value its table gives for absence. Table 12-3 gives none for the generation and
the deadline of a RESERVE reply that is not granted, and Table 12-5 none for the context id of a RESTORE that was
refused: the number sent in the field of a reply of the kind (first argument) at the offset (second argument)
(notes/assumptions/40.md). -/
opaque Config.absentField : Nat → Nat → Nat

/-- R180 gives the first byte of every reply, and Chapter 12 lays out the replies of RESERVE, RELEASE, RESTORE and
NOTICE_READ only: the bytes after the outcome in a reply of another kind but CURSOR_READ, from the kind and the items
that the rule of the request gives (notes/assumptions/41.md). -/
opaque Config.replyItems : Nat → Machine.Reply → List Byte

/-- R174 lists the items of a CURSOR_READ reply, and R184 and R185 give its records only: the bytes after the outcome
that come before the records, and those after the records (notes/assumptions/41.md). -/
opaque Config.cursorItems : Machine.CursorReply → List Byte × List Byte

/-- R184 lays out EXTENT and JOURNAL records, and R185 gives the condition code of a CHANNEL record: the bytes of a record
of another table (notes/assumptions/41.md). -/
opaque Config.recordItems : Machine.CursorRecord → List Byte

/-- R185: the bytes of a CHANNEL record before its condition code, and those after it (notes/assumptions/41.md). -/
opaque Config.channelItems : ChanId → Machine.Channel → List Byte × List Byte

/-- R180 gives each notice a kind byte, a length byte and its contents, and Chapter 12 does not lay the contents out: the
bytes of the items that the rule of the notice gives, where no code is among them (notes/assumptions/41.md). -/
opaque Config.noticeContents : Machine.Notice → List Byte

/-- R185: the contents of a notice that carries a code, those before the code and those after it
(notes/assumptions/41.md). -/
opaque Config.codedContents : Machine.Notice → List Byte × List Byte

end Sys2Proof
end

