-- ==== Sys2Proof/Machine/Tables.lean ====
section
/-! DEFINITION. The operations on tables, on the four heads and channels, and on lists of numbered slots. -/

namespace Sys2Proof.Machine

/-- The record of number `n`, or none when `n` is not listed. -/
def look {α : Type} : Table α → Nat → Option α
  | [], _ => none
  | (k, v) :: t, n => if n = k then some v else look t n

/-- Lists the record of number `n`, in place of an earlier one; the numbers stay strictly rising. -/
def put {α : Type} : Table α → Nat → α → Table α
  | [], n, a => [(n, a)]
  | (k, v) :: t, n, a =>
    if n < k then (n, a) :: (k, v) :: t else if n = k then (n, a) :: t else (k, v) :: put t n a

/-- Removes the record of number `n`, if it is listed. -/
def unlist {α : Type} : Table α → Nat → Table α
  | [], _ => []
  | (k, v) :: t, n => if n = k then t else (k, v) :: unlist t n

/-- Applies `f` to the record of number `n`, if it is listed. -/
def adjust {α : Type} (f : α → α) : Table α → Nat → Table α
  | [], _ => []
  | (k, v) :: t, n => if n = k then (k, f v) :: t else (k, v) :: adjust f t n

/-- Applies `f` to every record. -/
def mapTable {α : Type} (f : α → α) (t : Table α) : Table α := t.map fun p => (p.1, f p.2)

/-- The canonical form of a table: numbers strictly rising. -/
abbrev Rising {α : Type} (t : Table α) : Prop := List.Pairwise (fun a b => a < b) (t.map Prod.fst)

/-- The item of number `i`. -/
def Quad.get {α : Type} (q : Quad α) (i : Fin 4) : α :=
  if i = 0 then q.a0 else if i = 1 then q.a1 else if i = 2 then q.a2 else q.a3

/-- Replaces the item of number `i`. -/
def Quad.set {α : Type} (q : Quad α) (i : Fin 4) (a : α) : Quad α :=
  if i = 0 then { q with a0 := a } else if i = 1 then { q with a1 := a }
  else if i = 2 then { q with a2 := a } else { q with a3 := a }

/-- Applies `f` to all four items. -/
def Quad.map {α β : Type} (f : α → β) (q : Quad α) : Quad β := ⟨f q.a0, f q.a1, f q.a2, f q.a3⟩

/-- The four numbers in cyclic order, beginning after `i`. -/
def afterFour (i : Fin 4) : List (Fin 4) := [i + 1, i + 2, i + 3, i]

/-- The number of a head or channel that a request names, if there is one. -/
def four? (n : Nat) : Option (Fin 4) := if h : n < 4 then some ⟨n, h⟩ else none

end Sys2Proof.Machine
end

