-- ==== Sys2Proof/Machine/Frames.lean ====
section
/-! DEFINITION. Chapter 12 on the wire: the CRC-32, the frame envelope and its check, the bodies of the head-link and
offsite frames, the laid-out replies and cursor records, and the outcome and condition codes. -/

namespace Sys2Proof.Machine

/-! ## Multi-byte fields and the CRC -/

/-- R179: the value of bytes sent most significant byte first. -/
def beNat (bytes : List Byte) : Nat := bytes.foldl (fun n b => n * 256 + b.toNat) 0

/-- R179: `n` in `size` bytes, most significant byte first. -/
def beBytes : Nat → Nat → List Byte
  | 0, _ => []
  | size + 1, n => beBytes size (n / 256) ++ [BitVec.ofNat 8 n]

/-- The `size` bytes from offset `off`. -/
def slice (bytes : List Byte) (off size : Nat) : List Byte := (bytes.drop off).take size

/-- The number in the `size` bytes at offset `off`. -/
def field (bytes : List Byte) (off size : Nat) : Nat := beNat (slice bytes off size)

/-- R140: one shift of the reflected CRC register. -/
def crcShift (r : Digest) : Digest := if r.getLsbD 0 then (r >>> 1) ^^^ 0xEDB88320#32 else r >>> 1

/-- R140: one byte, least significant bit first. -/
def crcByte (r : Digest) (b : Byte) : Digest :=
  let r := r ^^^ b.setWidth 32
  crcShift (crcShift (crcShift (crcShift (crcShift (crcShift (crcShift (crcShift r)))))))

/-- R140: the CRC-32 of a string of bytes. -/
def crc32 (bytes : List Byte) : Digest := ~~~ (bytes.foldl crcByte 0xFFFFFFFF#32)

/-! ## The envelope -/

/-- Table 12-1: a frame whose check is good. -/
structure Envelope where
  kind        : Byte
  flags       : Byte
  incarnation : Nat
  tag         : Nat
  body        : List Byte
  deriving DecidableEq, Repr

/-- Table 12-1: the bytes before the frame check. -/
def Envelope.covered (e : Envelope) : List Byte :=
  [e.kind, e.flags] ++ beBytes 4 e.body.length ++ beBytes 2 e.incarnation ++ beBytes 2 e.tag ++ e.body

/-- Table 12-1, R180: a whole frame. -/
def Envelope.bytes (e : Envelope) : List Byte := e.covered ++ beBytes 4 (crc32 e.covered).toNat

/-- R180: the envelope of an arriving frame, or none when the frame is discarded: its check differs, or the number of
bytes is not 14 plus the body length. -/
def readEnvelope (bytes : List Byte) : Option Envelope :=
  let len := field bytes 2 4
  if bytes.length = 14 + len ∧ (crc32 (bytes.take (10 + len))).toNat = field bytes (10 + len) 4 then
    some { kind := bytes.getD 0 0, flags := bytes.getD 1 0, incarnation := field bytes 6 2, tag := field bytes 8 2,
           body := slice bytes 10 len }
  else none

/-- R180: a frame is taken whatever its flag bits other than bits 0 and 1 hold. What a set bit 0 or 1 does to an
arriving frame the manual leaves open. -/
def flagsTaken (flags : Byte) : Bool := if flags.toNat % 4 = 0 then true else Config.takesFlags flags

/-! ## Request bodies -/

/-- `count` extent indices of 4 bytes each, from offset `off`. -/
def readExtents (bytes : List Byte) (off : Nat) : Nat → List Nat
  | 0 => []
  | count + 1 => field bytes off 4 :: readExtents bytes (off + 4) count

/-- R181: the request in a body of the head-link kinds 0x10 to 0x18, or none when the kind is unknown or the body's
length is not its layout's. -/
def readRequest (kind : Nat) (b : List Byte) : Option Request :=
  if kind = 0x10 then
    if b.length = 7 then some (.reserve (field b 0 2) (field b 2 1) (field b 3 2) (field b 5 2)) else none
  else if kind = 0x11 then
    if b.length = 4 then some (.commit (field b 0 1) (field b 1 1) (field b 2 2)) else none
  else if kind = 0x12 then
    if b.length = 2 then some (.returnSlot (field b 0 1) (field b 1 1)) else none
  else if kind = 0x13 then
    if 4 ≤ b.length ∧ b.length = 4 + 4 * field b 3 1 then
      some (.release (field b 0 2) (field b 2 1) (readExtents b 4 (field b 3 1)))
    else none
  else if kind = 0x14 then
    if b.length = 2 then some (.seal (field b 0 1) (field b 1 1)) else none
  else if kind = 0x15 then
    if 12 ≤ b.length ∧ b.length = 12 + 4 * field b 10 2 then
      some (.restore { target := field b 0 2, source := if field b 2 2 = 0 then none else some (field b 2 2),
                       volume := field b 4 1, epoch := field b 5 4, mode := field b 9 1,
                       extents := readExtents b 12 (field b 10 2) })
    else none
  else if kind = 0x16 then
    if b.length = 2 then some (.cancelRestore (field b 0 2)) else none
  else if kind = 0x17 then
    if b.length = 2 then some (.queryAccount (field b 0 2)) else none
  else if kind = 0x18 then
    if b.length = 1 then some (.queryVolume (field b 0 1)) else none
  else none

/-- Table 12-2 and the order R180 gives for the management kinds: the kind code of a request. -/
def requestKind : Request → Nat
  | .reserve .. => 0x10
  | .commit .. => 0x11
  | .returnSlot .. => 0x12
  | .release .. => 0x13
  | .seal .. => 0x14
  | .restore .. => 0x15
  | .cancelRestore .. => 0x16
  | .queryAccount .. => 0x17
  | .queryVolume .. => 0x18
  | .status => 0x40
  | .restart => 0x41
  | .format .. => 0x42
  | .setClock .. => 0x43
  | .setCursor .. => 0x44
  | .cursorRead .. => 0x45
  | .createAccount .. => 0x46
  | .setLimits .. => 0x47
  | .setParent .. => 0x48
  | .deleteAccount .. => 0x49
  | .setGraceHold .. => 0x4A
  | .setFloor .. => 0x4B
  | .setReservationHold .. => 0x4C
  | .createVolume .. => 0x4D
  | .setVolume .. => 0x4E
  | .deleteVolume .. => 0x4F
  | .expire .. => 0x50
  | .setPoolSpacing .. => 0x51
  | .setWindow .. => 0x52
  | .startPass .. => 0x53
  | .withdrawPass .. => 0x54
  | .setChannel .. => 0x55
  | .setSplit .. => 0x56
  | .resume .. => 0x57
  | .clear .. => 0x58
  | .cancelPass .. => 0x59
  | .setHeads .. => 0x5A
  | .loadArbiter .. => 0x5B
  | .queryArbiter => 0x5C

/-- R181: the body of a head-link request; none for a request whose body the manual does not lay out. -/
def requestBody? : Request → Option (List Byte)
  | .reserve a v n m => some (beBytes 2 a ++ beBytes 1 v ++ beBytes 2 n ++ beBytes 2 m)
  | .commit k g n => some (beBytes 1 k ++ beBytes 1 g ++ beBytes 2 n)
  | .returnSlot k g => some (beBytes 1 k ++ beBytes 1 g)
  | .release a v xs => some (beBytes 2 a ++ beBytes 1 v ++ beBytes 1 xs.length ++ xs.flatMap (beBytes 4))
  | .seal v l => some (beBytes 1 v ++ beBytes 1 l)
  | .restore r =>
    some (beBytes 2 r.target ++ beBytes 2 (r.source.getD 0) ++ beBytes 1 r.volume ++ beBytes 4 r.epoch ++
      beBytes 1 r.mode ++ beBytes 2 r.extents.length ++ r.extents.flatMap (beBytes 4))
  | .cancelRestore t => some (beBytes 2 t)
  | .queryAccount a => some (beBytes 2 a)
  | .queryVolume v => some (beBytes 1 v)
  | _ => none

/-! ## Arriving frames -/

/-- What a head link unit finds in an arriving frame. -/
inductive HeadFrame where
  /-- R180: a bad check or a wrong number of bytes; no effect at all. -/
  | discarded
  | join (tag : Nat)
  | leave (incarnation tag : Nat)
  | keep
  | noticeRead (incarnation tag count : Nat)
  /-- `none`: an unknown kind, or a body of the wrong length. -/
  | request (kind incarnation tag : Nat) (r : Option Request)
  /-- R180: a good frame that is discarded and only restarts the detect timer: a JOIN, LEAVE, KEEP or NOTICE_READ
  whose body has the wrong length, or a frame whose flags keep it from being taken. -/
  | timerOnly (kind : Nat)
  deriving DecidableEq, Repr

/-- R152, R180, R181: reads a frame that arrives on a head link. The incarnation of a JOIN or KEEP is not read
(notes/assumptions/31.md). -/
def readHeadFrame (bytes : List Byte) : HeadFrame :=
  match readEnvelope bytes with
  | none => .discarded
  | some e =>
    if flagsTaken e.flags = false then .timerOnly e.kind.toNat
    else if e.kind.toNat = 0x01 then if e.body.length = 0 then .join e.tag else .timerOnly 0x01
    else if e.kind.toNat = 0x02 then if e.body.length = 0 then .leave e.incarnation e.tag else .timerOnly 0x02
    else if e.kind.toNat = 0x03 then if e.body.length = 0 then .keep else .timerOnly 0x03
    else if e.kind.toNat = 0x04 then
      if e.body.length = 1 then .noticeRead e.incarnation e.tag (field e.body 0 1) else .timerOnly 0x04
    else .request e.kind.toNat e.incarnation e.tag (readRequest e.kind.toNat e.body)

/-- What the management link unit finds in an arriving frame. -/
inductive ManagementFrame where
  | discarded
  | noticeRead (tag count : Nat)
  | request (kind tag : Nat) (r : Option Request)
  deriving DecidableEq, Repr

/-- R171: whether the kind of a request is known on the management link. -/
def onManagement (r : Request) : Bool := 0x14 ≤ requestKind r

/-- R171, R180, R181: reads a frame that arrives on the management link. R179 has its incarnation sent as 0; the field is
not read (notes/assumptions/31.md). -/
def readManagementBytes (bytes : List Byte) : ManagementFrame :=
  match readEnvelope bytes with
  | none => .discarded
  | some e =>
    if flagsTaken e.flags = false then .discarded
    else if e.kind.toNat = 0x04 then if e.body.length = 1 then .noticeRead e.tag (field e.body 0 1) else .discarded
    else if 0x14 ≤ e.kind.toNat ∧ e.kind.toNat ≤ 0x18 then .request e.kind.toNat e.tag (readRequest e.kind.toNat e.body)
    else if 0x40 ≤ e.kind.toNat ∧ e.kind.toNat ≤ 0x5C then
      .request e.kind.toNat e.tag ((Config.managementBody e.kind e.body).filter fun r => requestKind r = e.kind.toNat)
    else .request e.kind.toNat e.tag none

/-- R171: a management frame in either form it may be given in. Items that do not belong to the frame's kind are a body of
the wrong length; a NOTICE_READ, whose body the manual lays out, is given byte for byte only. -/
def readManagementFrame : MgmtFrame → ManagementFrame
  | .raw bytes => readManagementBytes bytes
  | .items good kind tag r =>
    if good = false ∨ kind = 0x04 then .discarded
    else .request kind.toNat tag (r.filter fun q => onManagement q && requestKind q = kind.toNat)

/-- What the duplication unit finds in an arriving frame. -/
inductive GatewayFrame where
  /-- R180, R183: no effect: a bad check or number of bytes, a part-side or unknown kind. A gateway kind with a body of
  another length than its layout has none either, which no rule says: DEDUCED (notes/assumptions/27.md). -/
  | discarded
  | accept (passId seq : Nat) (echo : Digest)
  | defer (passId seq : Nat)
  | refuse (passId seq : Nat) (reason : Byte)
  | ready (passId seq : Nat)
  deriving DecidableEq, Repr

/-- R180, R182, R183: reads a frame that arrives on the offsite link; a body of another length than its layout is
discarded (notes/assumptions/27.md). R179 has its incarnation and tag sent as 0; neither field is read
(notes/assumptions/31.md). -/
def readGatewayFrame (bytes : List Byte) : GatewayFrame :=
  match readEnvelope bytes with
  | none => .discarded
  | some e =>
    if flagsTaken e.flags = false then .discarded
    else if e.kind.toNat = 0x90 then
      if e.body.length = 12 then .accept (field e.body 0 4) (field e.body 4 4) (BitVec.ofNat 32 (field e.body 8 4))
      else .discarded
    else if e.kind.toNat = 0x91 then
      if e.body.length = 8 then .defer (field e.body 0 4) (field e.body 4 4) else .discarded
    else if e.kind.toNat = 0x92 then
      if e.body.length = 9 then .refuse (field e.body 0 4) (field e.body 4 4) (e.body.getD 8 0) else .discarded
    else if e.kind.toNat = 0x93 then
      if e.body.length = 8 then .ready (field e.body 0 4) (field e.body 4 4) else .discarded
    else .discarded

/-! ## Codes -/

/-- R185, Table 12-9: the value an outcome code is sent as. -/
def Code.value : Code → Nat
  | .ok => 0x00 | .pending => 0x01 | .badArgument => 0x02 | .notReady => 0x03 | .busy => 0x04 | .tagInUse => 0x05
  | .stale => 0x06 | .barred => 0x07 | .noAccount => 0x08 | .notPerson => 0x09 | .notGroup => 0x0A | .exists_ => 0x0B
  | .groupsFull => 0x0C | .notEmpty => 0x0D | .activeSet => 0x0E | .ownLimit => 0x0F | .groupLimit => 0x10
  | .poolLimit => 0x11 | .fragmented => 0x12 | .slotsFull => 0x13 | .unknownReservation => 0x14 | .tooLate => 0x15
  | .noVolume => 0x16 | .full => 0x17 | .epochExhausted => 0x18 | .notLive => 0x19 | .contextsFull => 0x1A
  | .unknownRestore => 0x1B | .cancelled => 0x1C | .notNewer => 0x1D | .noEntry => 0x1E | .notIdle => 0x1F
  | .notStopped => 0x20 | .notResumable => 0x21 | .noPass => 0x22

/-- R185, Table 12-10: the value a channel condition is sent as. -/
def Condition.value : Condition → Nat
  | .none => 0 | .noStaging => 1 | .journalLost => 2 | .refused _ => 3 | .retryLimit => 4 | .integrity => 5
  | .sourceFault => 6 | .cancelled => 7

/-- Table 12-5: the value a mark is sent as. -/
def Mark.value : Mark → Nat
  | .unclassified => 0 | .heldLive => 1 | .heldRetained => 2 | .notHeld => 3 | .inUse => 4 | .overQuota => 5
  | .relinked => 6 | .alreadyLive => 7

/-- R180: the kind byte of a notice in a NOTICE_READ reply. -/
def Notice.kind : Notice → Nat
  | .accountState .. => 0xA0 | .sealed .. => 0xA1 | .reservationLapsed .. => 0xA2 | .headDown .. => 0xA3
  | .walkDone .. => 0xA4 | .journalLost .. => 0xA5 | .journalRestart => 0xA6 | .channelStopped .. => 0xA7
  | .passDone .. => 0xA8 | .passSkipped .. => 0xA9 | .nightlySkipped .. => 0xAA | .startDone .. => 0xAB

/-! ## Laid-out replies, records and offsite frames -/

/-- Table 12-3: the body of a RESERVE reply. The table gives no absence value for the generation and the deadline, which a
reply that is not granted does not have; safe: free values (notes/assumptions/40.md). -/
def reserveReplyBody (c : Code) (slot : Option (Nat × Nat)) (count headroom : Nat) (deadline : Option Nat)
    (runs : List Run) : List Byte :=
  beBytes 1 c.value ++ beBytes 1 ((slot.map Prod.fst).getD 0xFF) ++ beBytes 1 ((slot.map Prod.snd).getD (Config.absentField 0x10 2)) ++
    beBytes 1 runs.length ++ beBytes 2 count ++ beBytes 4 headroom ++ beBytes 5 (deadline.getD (Config.absentField 0x10 10)) ++
    runs.flatMap fun r => beBytes 4 r.first ++ beBytes 2 r.length

/-- The bits of `x` from `8 * i`, as a byte. -/
def bitmapByte (x : BitVec 64) (i : Nat) : Byte := (x >>> (8 * i)).setWidth 8

/-- Table 12-4: the body of a RELEASE reply. -/
def releaseReplyBody (c : Code) (released retained freed : Nat) (mismatch : BitVec 64) : List Byte :=
  beBytes 1 c.value ++ beBytes 1 released ++ beBytes 1 retained ++ beBytes 1 freed ++
    (List.range 8).map (bitmapByte mismatch)

/-- R107: the number of places with a mark. -/
def countMark (m : Mark) (places : List Place) : Nat := (places.filter fun p => p.mark = m).length

/-- R107, Table 12-5: the marks in the order their counts are sent. -/
def markOrder : List Mark :=
  [.heldLive, .inUse, .notHeld, .overQuota, .relinked, .alreadyLive, .heldRetained, .unclassified]

/-- Table 12-5: the body of the reply of a RESTORE that was accepted. -/
def restoreReplyBody (r : RestoreReply) : List Byte :=
  beBytes 1 r.outcome.value ++ beBytes 1 r.id ++ beBytes 1 (if r.charge.isSome then 1 else 0) ++
    beBytes 1 (((r.charge.bind (·.limiting)).map Code.value).getD 0) ++ beBytes 4 ((r.charge.map (·.headroom)).getD 0) ++
    beBytes 2 r.admitted ++ markOrder.flatMap (fun m => beBytes 2 (countMark m r.places)) ++
    beBytes 2 r.places.length ++ r.places.flatMap fun p => beBytes 1 p.mark.value

/-- Table 12-5: the body of the reply of a RESTORE that was refused: no charge, nothing admitted, no place. The table gives
no absence value for the context id; safe: a free value (notes/assumptions/40.md). -/
def restoreRefusedBody (c : Code) : List Byte :=
  restoreReplyBody ⟨Config.absentField 0x15 1, c, none, 0, []⟩

/-- R185: the outcome of a reply. -/
def Reply.outcome : Reply → Code
  | .code c => c
  | .reserve c .. => c
  | .sealCancelled _ => .cancelled
  | .restore r => r.outcome
  | .join .. | .notices .. | .committed .. | .returned .. | .released .. | .sealed .. | .account .. | .volume ..
  | .starting .. | .status .. | .stored .. | .formatted .. | .accountCreated .. | .accountStored .. | .volumeStored ..
  | .graceHold .. | .window .. | .clock .. | .passEntered .. | .withdrawn .. | .channelStored .. | .cleared ..
  | .cancelledPass .. | .headsStored .. | .cursor .. | .arbiter .. => .ok

/-- Table 12-7: an extent record of 31 bytes. -/
def extentRecordBytes (index : Nat) : Option Extent → List Byte
  | none =>
    beBytes 4 index ++ beBytes 1 0 ++ beBytes 1 0xFF ++ beBytes 2 0 ++ beBytes 3 0xFFFFFF ++ beBytes 4 0 ++ beBytes 4 0 ++
      beBytes 4 0 ++ beBytes 4 0xFFFFFFFF ++ beBytes 4 0xFFFFFFFF
  | some (.reserved v o h k g) =>
    beBytes 4 index ++ beBytes 1 1 ++ beBytes 1 v ++ beBytes 2 o ++ beBytes 1 h ++ beBytes 1 k ++ beBytes 1 g ++
      beBytes 4 0 ++ beBytes 4 0 ++ beBytes 4 0 ++ beBytes 4 0xFFFFFFFF ++ beBytes 4 0xFFFFFFFF
  | some (.live v o b s) =>
    beBytes 4 index ++ beBytes 1 2 ++ beBytes 1 v ++ beBytes 2 o ++ beBytes 3 0xFFFFFF ++ beBytes 4 b ++ beBytes 4 s ++
      beBytes 4 0 ++ beBytes 4 0xFFFFFFFF ++ beBytes 4 0xFFFFFFFF
  | some (.retained v o b s d p n) =>
    beBytes 4 index ++ beBytes 1 3 ++ beBytes 1 v ++ beBytes 2 o ++ beBytes 3 0xFFFFFF ++ beBytes 4 b ++ beBytes 4 s ++
      beBytes 4 d ++ beBytes 4 (p.getD 0xFFFFFFFF) ++ beBytes 4 (n.getD 0xFFFFFFFF)

/-- Table 12-8: a journal entry record of 22 bytes. -/
def journalRecordBytes (e : JournalEntry) : List Byte :=
  beBytes 6 e.seq ++ beBytes 1 (match e.kind with | .birth => 0 | .death => 1) ++ beBytes 1 e.volume ++
    beBytes 4 e.first ++ beBytes 2 e.count ++ beBytes 4 e.epoch ++ beBytes 4 (e.oldShip.getD 0)

/-- Bytes that stand between two others. -/
def between (around : List Byte × List Byte) (bytes : List Byte) : List Byte := around.1 ++ bytes ++ around.2

/-- R184, R185: a record in a CURSOR_READ reply: an EXTENT and a JOURNAL record as they are laid out, a CHANNEL record
with the code of its condition. -/
def recordBytes : CursorRecord → List Byte
  | .extent x e => extentRecordBytes x e
  | .journal e => journalRecordBytes e
  | .channel c x => between (Config.channelItems c x) (beBytes 1 x.condition.value)
  | r => Config.recordItems r

/-- R174, R184: the body of a CURSOR_READ reply, the records side by side in the order read. -/
def cursorReplyBody (r : CursorReply) : List Byte :=
  beBytes 1 Code.ok.value ++ between (Config.cursorItems r) (r.records.flatMap recordBytes)

/-- R185: the contents of a notice: those of CHANNEL_STOPPED with the code of the condition, those of NIGHTLY_SKIPPED with
the outcome code. -/
def noticeContents (n : Notice) : List Byte :=
  match n with
  | .channelStopped _ _ _ c => between (Config.codedContents n) (beBytes 1 c.value)
  | .nightlySkipped _ c => between (Config.codedContents n) (beBytes 1 c.value)
  | n => Config.noticeContents n

/-- R180: a notice in a NOTICE_READ reply: its kind, its length and its contents. -/
def noticeBytes (n : Notice) : List Byte :=
  beBytes 1 n.kind ++ beBytes 1 (noticeContents n).length ++ noticeContents n

/-- R180, R181: the body of a reply to a request of a kind. A RESERVE, RELEASE or RESTORE that is refused before its own
items exist has the layout of its kind too, with the counts of nothing (notes/assumptions/40.md). The kinds 0x10 and 0x13
are unknown on the management link, and no rule gives what follows the outcome byte when such a frame is refused there:
that it is the layout of a refused RESERVE or RELEASE is DESIGN CHOICE (notes/assumptions/40.md). Where the notices stand
in a NOTICE_READ reply is DESIGN CHOICE (notes/assumptions/41.md): directly after the outcome byte, side by side in queue
order, with no count and no other field. -/
def Reply.body (kind : Nat) (r : Reply) : List Byte :=
  match r with
  | .reserve c slot count headroom deadline runs => reserveReplyBody c slot count headroom deadline runs
  | .released n retained freed mismatch => releaseReplyBody .ok n retained freed mismatch
  | .restore x => restoreReplyBody x
  | .notices _ l => beBytes 1 Code.ok.value ++ l.flatMap noticeBytes
  | .cursor x => cursorReplyBody x
  | .code c =>
    if kind = 0x10 then reserveReplyBody c none 0 0 none []
    else if kind = 0x13 then releaseReplyBody c 0 0 0 0#64
    else if kind = 0x15 then restoreRefusedBody c
    else beBytes 1 c.value ++ Config.replyItems kind r
  | r => beBytes 1 r.outcome.value ++ Config.replyItems kind r

/-- R179: the missed indication of a NOTICE_READ reply. -/
def Reply.missed : Reply → Bool
  | .notices missed _ => missed
  | _ => false

/-- R179, R180: the envelope of a reply: the kind of its request, flag bit 0, and flag bit 1 for the missed indication. -/
def replyEnvelope (incarnation tag kind : Nat) (r : Reply) : Envelope :=
  ⟨BitVec.ofNat 8 kind, if r.missed then 3 else 1, incarnation, tag, r.body kind⟩

/-- R182, Table 12-6: kind and body of a frame the part sends on the offsite link. -/
def OffsiteFrame.envelope : OffsiteFrame → Envelope
  | .openPass p q v b t m =>
    ⟨0x80, 0, 0, 0, beBytes 4 p ++ beBytes 4 q ++ beBytes 1 v ++
      beBytes 1 (match m with | .delta => 0 | .rebase => 1) ++ beBytes 4 b ++ beBytes 4 t⟩
  | .carry p q x e d pay =>
    ⟨0x81, 0, 0, 0, beBytes 4 p ++ beBytes 4 q ++ beBytes 4 x ++ beBytes 4 e ++ beBytes 4 d.toNat ++ pay⟩
  | .drop p q xs => ⟨0x82, 0, 0, 0, beBytes 4 p ++ beBytes 4 q ++ beBytes 1 xs.length ++ xs.flatMap (beBytes 4)⟩
  | .closePass p q c d => ⟨0x83, 0, 0, 0, beBytes 4 p ++ beBytes 4 q ++ beBytes 4 c ++ beBytes 4 d⟩
  | .probe p q => ⟨0x84, 0, 0, 0, beBytes 4 p ++ beBytes 4 q⟩

/-- R179: the frame that the part sends on a link; a read on the pool port is none. -/
def Output.envelope? : Output → Option Envelope
  | .reply _ incarnation tag kind r => some (replyEnvelope incarnation tag kind r)
  | .frame _ f => some f.envelope
  | .poolRead _ => none

end Sys2Proof.Machine
end

