-- ==== Sys2Proof/Machine/Ops.lean ====
section
/-! DEFINITION. The operations that the commands share: messages, account figures and quota states, extents and the
pool figures, channel stops and the change journal, pins, expiry and retention chains, the window, and the pass
queues. -/

namespace Sys2Proof.Machine

/-! ## Parts of the state -/

/-- Begins a command: what the last command sent is over. -/
def State.fresh (s : State) : State := { s with sent := [] }

def modifyHead (h : HeadId) (f : Head → Head) (s : State) : State :=
  { s with heads := s.heads.set h (f (s.heads.get h)) }

def modifyChannel (c : ChanId) (f : Channel → Channel) (s : State) : State :=
  { s with channels := s.channels.set c (f (s.channels.get c)) }

def modifyVolume (v : Nat) (f : Volume → Volume) (s : State) : State :=
  { s with volumes := adjust f s.volumes v }

def modifyAccount (n : Nat) (f : Account → Account) (s : State) : State :=
  { s with accounts := adjust f s.accounts n }

/-- R63: the ACTIVE volume of number `v`; none for an undefined volume. -/
def volume? (s : State) (v : Nat) : Option Volume := if v ≤ 63 then look s.volumes v else none

/-- R18: the account of number `n`; none for number 0 and for an undefined number. -/
def account? (s : State) (n : Nat) : Option Account := if n = 0 then none else look s.accounts n

/-- R68: the open epoch of a volume. -/
def openEpoch (s : State) (v : Nat) : Nat := ((volume? s v).map (·.openEpoch)).getD 1

/-! ## Replies and notices -/

/-- Sends one message. -/
def emit (o : Output) (s : State) : State := { s with sent := s.sent ++ [o] }

/-- R156, R157, R171: the reply of a request of a kind that was taken. On a head link it is sent, and its tag leaves use, only
when the link is UP with the incarnation the request carried; in every other case it is discarded. -/
def answer (kind : Nat) (link : Link) (incarnation tag : Nat) (r : Reply) (s : State) : State :=
  match link with
  | .mgmt => emit (.reply .mgmt 0 tag kind r) { s with mlu.tags := s.mlu.tags.erase tag }
  | .head h =>
    if (s.heads.get h).link = .up ∧ (s.heads.get h).incarnation = incarnation then
      emit (.reply (.head h) incarnation tag kind r) (modifyHead h (fun x => { x with tags := x.tags.erase tag }) s)
    else s

/-- R160: a notice for a head; placed only while the link is UP, and lost to the missed flag when 32 notices wait. -/
def placeHead (h : HeadId) (n : Notice) (s : State) : State :=
  if (s.heads.get h).link = .up then
    modifyHead h (fun x => if x.notices.length < 32 then { x with notices := x.notices ++ [n] } else { x with missed := true }) s
  else s

/-- R160: a notice for the management processor. -/
def placeMl (n : Notice) (s : State) : State :=
  if s.mlu.notices.length < 32 then { s with mlu.notices := s.mlu.notices ++ [n] } else { s with mlu.missed := true }

/-- R32, R74: a notice for every UP head whose selection has its kind ON, and for the management processor. -/
def broadcast (selected : Head → Bool) (n : Notice) (s : State) : State :=
  placeMl n (four.foldl (fun s h => if selected (s.heads.get h) then placeHead h n s else s) s)

/-- R160: a head's attention line. -/
def attention (s : State) (h : HeadId) : Bool := !(s.heads.get h).notices.isEmpty

/-! ## Account figures, statistics and quota states -/

/-- R19: the parent group of an account. -/
def parentOf (a : Account) : Option Nat :=
  match a.body with
  | .person p => p.parent
  | .group _ => none

/-- R22, R40: changes a person's record and that of its parent group alike. -/
def withGroup (n : Nat) (f : Account → Account) (s : State) : State :=
  match look s.accounts n with
  | none => s
  | some a =>
    match parentOf a with
    | none => modifyAccount n f s
    | some g => modifyAccount g f (modifyAccount n f s)

/-- R21, R22: changes the figures of a person and of its group. -/
def changeFigures (n : Nat) (f : Figures → Figures) (s : State) : State :=
  withGroup n (fun a => { a with figures := f a.figures }) s

/-- R40: changes the statistics of a person and of its group. -/
def changeStats (n : Nat) (f : Stats → Stats) (s : State) : State :=
  withGroup n (fun a => { a with stats := f a.stats }) s

/-- R24: the retention charge of a retained count at a percent. -/
def retentionCharge (retained percent : Nat) : Nat := ceilDiv (retained * percent) 100

/-- R31: the standing use of an account. -/
def standingUse (a : Account) : Nat := a.figures.used + retentionCharge a.figures.retained a.percent

/-- R19: the soft limit of a person, an absent one being equal to the hard limit. -/
def softLimit (p : Person) : Nat := p.soft.getD p.hard

/-- A deadline `period` seconds after `now`. The manual states no result for a sum above the upper end of the wall
clock (R175); DESIGN CHOICE, safe: a free wall clock value (notes/assumptions/1.md). -/
def deadlineAt (now period : Nat) : Nat :=
  if now + period ≤ clockMax then now + period else min clockMax (Config.deadlineBeyondClock (now + period))

/-- R31, Table 2-6: the quota state after a re-evaluation. -/
def nextQuota (now : Nat) (p : Person) (standing : Nat) : Quota :=
  if standing ≤ softLimit p then .under
  else
    match p.quota with
    | .under => if 0 < p.grace then .overSoft (deadlineAt now p.grace) else .lapsed
    | .overSoft d => .overSoft d
    | .lapsed => .lapsed

/-- R31: the name of a quota state. -/
def Quota.name : Quota → QuotaName
  | .under => .under
  | .overSoft _ => .overSoft
  | .lapsed => .lapsed

/-- Sets a person's quota state and sends ACCOUNT_STATE (R32). -/
def setQuota (n : Nat) (a : Account) (p : Person) (q : Quota) (s : State) : State :=
  broadcast (·.selectAccount) (.accountState n p.quota.name q (standingUse a) (softLimit p))
    (modifyAccount n (fun a => { a with body := .person { p with quota := q } }) s)

/-- R31: re-evaluates the quota state of a person account; a state left as it was sends no notice. -/
def reevaluate (n : Nat) (s : State) : State :=
  match look s.accounts n with
  | none => s
  | some a =>
    match a.body with
    | .group _ => s
    | .person p =>
      let q := nextQuota s.clock.now p (standingUse a)
      if q = p.quota then s else setQuota n a p q s

/-! ## Extents and the pool figures -/

/-- R5: the zone size Z. -/
def zoneSize (p : Pool) : Nat := ceilDiv p.capacity zoneCount
/-- R5: the first index of a zone. -/
def zoneFirst (p : Pool) (z : Nat) : Nat := z * zoneSize p
/-- R5: one past the last index of a zone; for an empty zone this is not above its first index. -/
def zoneEnd (p : Pool) (z : Nat) : Nat := min ((z + 1) * zoneSize p) p.capacity
/-- R5: the zone of an extent index. -/
def zoneOf (p : Pool) (x : Nat) : Nat := x / zoneSize p
/-- R5: the number of extents a zone covers. -/
def zoneCovers (p : Pool) (z : Nat) : Nat := zoneEnd p z - zoneFirst p z

/-- R1, R4: the record of an extent that is not FREE; none for a FREE extent and for an index of N or more. -/
def extentAt (p : Pool) (x : Nat) : Option Extent := if x < p.capacity then look p.extents x else none

/-- R1: the volume field of a record. -/
def volumeOf : Extent → Nat
  | .reserved v .. => v
  | .live v .. => v
  | .retained v .. => v

/-- R1: the owner field of a record. -/
def ownerOf : Extent → Nat
  | .reserved _ o .. => o
  | .live _ o .. => o
  | .retained _ o .. => o

/-- Adds to the free count of a zone. -/
def zoneGain (zones : List Nat) (z : Nat) : List Nat := zones.set z (zones.getD z 0 + 1)
/-- Takes from the free count of a zone. -/
def zoneLose (zones : List Nat) (z : Nat) : List Nat := zones.set z (zones.getD z 0 - 1)

/-- R2, R6, R64: an extent of volume `v` becomes FREE and loses its fields. -/
def enterFree (x v : Nat) (s : State) : State :=
  modifyVolume v (fun V => { V with held := V.held - 1 })
    { s with pool := { s.pool with free := s.pool.free + 1, zoneFree := zoneGain s.pool.zoneFree (zoneOf s.pool x),
                                   extents := unlist s.pool.extents x } }

/-- R2, R6, R64: a FREE extent becomes `e`. -/
def leaveFree (x : Nat) (e : Extent) (s : State) : State :=
  modifyVolume (volumeOf e) (fun V => { V with held := V.held + 1 })
    { s with pool := { s.pool with free := s.pool.free - 1, zoneFree := zoneLose s.pool.zoneFree (zoneOf s.pool x),
                                   extents := put s.pool.extents x e } }

/-- Stores the record of an extent that stays out of FREE. -/
def setExtent (x : Nat) (e : Extent) (s : State) : State := { s with pool.extents := put s.pool.extents x e }

/-- R2: a RESERVED extent becomes FREE; an extent in another state is not changed. -/
def freeReserved (x : Nat) (s : State) : State :=
  match extentAt s.pool x with
  | some (.reserved v _ _ _ _) => enterFree x v s
  | _ => s

/-- The extents of a list of runs, in run order (Table 3-1). -/
def runExtents (runs : List Run) : List Nat := runs.flatMap fun r => (List.range r.length).map (r.first + ·)

/-! ## The offsite channels: stopping and suspending -/

/-- R135: enters STOPPED. The outstanding flag, the deadlines and the suspend-pending flag are dropped and the
condition is set; every change of condition but the one to RETRY_LIMIT sets the consecutive-failure count to 0
(notes/assumptions/15.md). -/
def stopChannel (c : ChanId) (cond : Condition) (s : State) : State :=
  modifyChannel c (fun x => { x with
    state := .stopped, outstanding := none, deadline := none, probeDue := none, suspendPending := false,
    condition := cond, failures := if cond = .retryLimit then x.failures else 0 }) s

/-- R135: a stop that sends CHANNEL_STOPPED. -/
def stopWithNotice (c : ChanId) (cond : Condition) (s : State) : State :=
  match (s.channels.get c).pass with
  | some p => placeMl (.channelStopped c p.id p.volume cond) (stopChannel c cond s)
  | none => stopChannel c cond s

/-- R16, R17: a stop for JOURNAL_LOST, with the JOURNAL_LOST notice in place of CHANNEL_STOPPED. -/
def stopJournalLost (c : ChanId) (s : State) : State :=
  match (s.channels.get c).pass with
  | some p => placeMl (.journalLost c p.volume p.id) (stopChannel c .journalLost s)
  | none => s

/-- R147: a channel suspends, and keeps its previous state; the probe due time is dropped. -/
def suspend (x : Channel) : Channel :=
  match x.state with
  | .streaming => { x with state := .suspended .streaming, suspendPending := false, probeDue := none }
  | .probing => { x with state := .suspended .probing, suspendPending := false, probeDue := none }
  | _ => x

/-- R147: the close event, or the override set OFF in a closed window, at one channel. -/
def closeChannel (x : Channel) : Channel :=
  match x.state with
  | .streaming => if x.outstanding.isSome then { x with suspendPending := true } else suspend x
  | .probing => if x.outstanding.isSome then { x with suspendPending := true } else suspend x
  | _ => x

/-- R147: the open event, or the override set ON, at one channel: a suspended channel returns to its previous state,
PROBING with its probe due at once; a suspend-pending flag is cleared. -/
def openChannel (now : Nat) (x : Channel) : Channel :=
  match x.state with
  | .suspended .streaming => { x with state := .streaming }
  | .suspended .probing => { x with state := .probing, probeDue := some now }
  | _ => { x with suspendPending := false }

/-- R138: stops a channel with SOURCE_FAULT when its pending frame is a CARRY whose slot is FAULTED and it is
STREAMING, PROBING or SUSPENDED. -/
def stopIfPendingFaulted (c : ChanId) (s : State) : State :=
  let x := s.channels.get c
  match x.queue, x.state with
  | _, .idle => s
  | _, .stopped => s
  | .carry _ _ k :: _, _ =>
    match x.staging.getD k .empty with
    | .faulted _ _ => stopWithNotice c .sourceFault s
    | _ => s
  | _, _ => s

/-! ## The change journal -/

/-- R13: a change of one extent's life that the journal records. -/
structure LifeChange where
  kind    : JournalKind
  volume  : Nat
  extent  : Nat
  epoch   : Nat
  oldShip : Option Nat
  deriving DecidableEq, Repr

/-- R14: whether an extent joins the run of the extent processed just before it. -/
def joinsRun (e : JournalEntry) (c : LifeChange) : Bool :=
  e.kind = c.kind ∧ e.volume = c.volume ∧ e.first + e.count = c.extent ∧ e.epoch = c.epoch ∧ e.oldShip = c.oldShip ∧
    e.count < 256

/-- R14: the runs of an operation's changes, latest first; `none` is an extent that ends the run before it, and the
flag says whether the latest run may still be joined. The sequence numbers are given at the append. -/
def addToRuns : List JournalEntry × Bool → Option LifeChange → List JournalEntry × Bool
  | (es, _), none => (es, false)
  | (e :: es, true), some c =>
    if joinsRun e c then ({ e with count := e.count + 1 } :: es, true)
    else (⟨0, c.kind, c.volume, c.extent, 1, c.epoch, c.oldShip⟩ :: e :: es, true)
  | (es, _), some c => (⟨0, c.kind, c.volume, c.extent, 1, c.epoch, c.oldShip⟩ :: es, true)

/-- R14: the entries of an operation, in the order of their runs. -/
def runsOf (changes : List (Option LifeChange)) : List JournalEntry := (changes.foldl addToRuns ([], false)).1.reverse

/-- R16: the check of one channel at an append that overwrites the entry numbered `seq`. -/
def overrunChannel (seq : Nat) (s : State) (c : ChanId) : State :=
  match (s.channels.get c).pass with
  | some p =>
    if p.mode = .delta ∧ p.cursor = seq then
      stopJournalLost c (modifyVolume p.volume (fun V => { V with needsRebase := true }) s)
    else s
  | none => s

/-- R17: stops a channel that holds a pass. -/
def renumberChannel (s : State) (c : ChanId) : State := if (s.channels.get c).state = .idle then s else stopJournalLost c s

/-- R17: renumbers the journal. -/
def renumber (s : State) : State :=
  let s := { s with journal := ⟨[], 0, 0⟩ }
  let s := { s with volumes := mapTable (fun V => { V with
    shipMark := 0, needsRebase := true, catalogue := V.catalogue.map fun p => { p with mark := 0 } }) s.volumes }
  placeMl .journalRestart (four.foldl renumberChannel s)

/-- R15, R16: makes room in a full ring by overwriting the oldest entry, and checks the channels. -/
def makeRoom (s : State) : State :=
  if ringSize ≤ s.journal.append - s.journal.oldest then
    four.foldl (overrunChannel s.journal.oldest)
      { s with journal := { s.journal with entries := s.journal.entries.tail, oldest := s.journal.oldest + 1 } }
  else s

/-- R15: stores an entry with sequence number A. -/
def storeEntry (e : JournalEntry) (s : State) : State :=
  { s with journal := { s.journal with entries := s.journal.entries ++ [{ e with seq := s.journal.append }],
                                       append := s.journal.append + 1 } }

/-- R15, R17: appends an entry. -/
def appendEntry (s : State) (e : JournalEntry) : State :=
  storeEntry e (makeRoom (if seqLimit ≤ s.journal.append then renumber s else s))

/-- R14: appends the entries of one operation. -/
def appendChanges (changes : List (Option LifeChange)) (s : State) : State := (runsOf changes).foldl appendEntry s

/-! ## Snapshots: pins, expiry and rotation -/

/-- The record of an epoch in a catalogue. -/
def findSnapshot (V : Volume) (e : Nat) : Option Snapshot := V.catalogue.find? fun p => p.epoch = e

/-- R76: the number of LIVE snapshots. -/
def liveCount (V : Volume) : Nat := (V.catalogue.filter fun p => p.state = .live).length

/-- R60: the newest LIVE snapshot of a volume. -/
def newestLive (V : Volume) : Option Snapshot := (V.catalogue.filter fun p => p.state = .live).getLast?

def modifySnapshot (v e : Nat) (f : Snapshot → Snapshot) (s : State) : State :=
  modifyVolume v (fun V => { V with catalogue := V.catalogue.map fun p => if p.epoch = e then f p else p }) s

/-- R77, R78, R79: a snapshot becomes EXPIRING and joins the end of the expiry queue. -/
def expireSnapshot (v e : Nat) (s : State) : State :=
  let s := modifySnapshot v e (fun p => { p with state := .expiring, expirePending := false }) s
  { s with epu.expiryQueue := s.epu.expiryQueue ++ [(v, e)] }

/-- R77: the oldest LIVE snapshot that rotation may take. -/
def rotationCandidate (V : Volume) : Option Snapshot :=
  V.catalogue.find? fun p => p.state = .live ∧ p.pins = 0 ∧ p.expirePending = false

/-- R77: expires candidates while the LIVE snapshots exceed the keep count, at most `fuel` of them. -/
def rotate (v : Nat) : Nat → State → State
  | 0, s => s
  | fuel + 1, s =>
    match volume? s v with
    | none => s
    | some V =>
      if V.keep < liveCount V then
        match rotationCandidate V with
        | none => s
        | some p => rotate v fuel (expireSnapshot v p.epoch s)
      else s

/-- R77: a rotation check of a volume. -/
def rotationCheck (v : Nat) (s : State) : State :=
  match volume? s v with
  | none => s
  | some V => rotate v V.catalogue.length s

/-- R78: takes a pin. -/
def takePin (v e : Nat) (s : State) : State := modifySnapshot v e (fun p => { p with pins := p.pins + 1 }) s

/-- R78: drops a pin; at 0 the snapshot's own expire-pending path runs, and then a rotation check. -/
def dropPin (v e : Nat) (s : State) : State :=
  match (volume? s v).bind fun V => findSnapshot V e with
  | none => s
  | some p =>
    let s := modifySnapshot v e (fun p => { p with pins := p.pins - 1 }) s
    if p.pins = 1 then rotationCheck v (if p.expirePending then expireSnapshot v e s else s) else s

/-! ## Retention chains -/

/-- Sets the chain successor of a RETAINED record. -/
def withSucc (n : Option Nat) : Extent → Extent
  | .retained v o b h d p _ => .retained v o b h d p n
  | e => e

/-- Sets the chain predecessor of a RETAINED record. -/
def withPred (p : Option Nat) : Extent → Extent
  | .retained v o b h d _ n => .retained v o b h d p n
  | e => e

/-- Applies `f` to the record of an extent that may be absent. -/
def adjustExtent (x : Option Nat) (f : Extent → Extent) (s : State) : State :=
  match x with
  | none => s
  | some x => { s with pool.extents := adjust f s.pool.extents x }

/-- R85: takes the record of `x`, whose links are `pred` and `succ`, out of the chain of volume `v`. -/
def unlinkChain (v : Nat) (pred succ : Option Nat) (s : State) : State :=
  modifyVolume v (fun V => { V with
      chainHead := if pred = none then succ else V.chainHead, chainTail := if succ = none then pred else V.chainTail,
      chainCount := V.chainCount - 1 })
    (adjustExtent succ (withPred pred) (adjustExtent pred (withSucc succ) s))

/-- R92, R93: what the removal of record `x` by another agent does to a walk in progress on volume `v`. -/
def walkAfterRemoval (v x : Nat) (pred succ : Option Nat) (w : Walk) : Walk :=
  if w.volume = v then
    let atPosition := w.position = some x
    let w' := { w with position := if atPosition then succ else w.position }
    if w.endMarker = some x then
      if atPosition ∨ pred = none then { w' with finished := true, endMarker := none } else { w' with endMarker := pred }
    else w'
  else w

/-- R61, R84: appends extent `x` to the chain of its volume as the new tail. -/
def appendChain (v x owner birth ship death : Nat) (s : State) : State :=
  match volume? s v with
  | none => s
  | some V =>
    modifyVolume v (fun V => { V with
        chainHead := if V.chainTail = none then some x else V.chainHead, chainTail := some x,
        chainCount := V.chainCount + 1 })
      (setExtent x (.retained v owner birth ship death V.chainTail none)
        (adjustExtent V.chainTail (withSucc (some x)) s))

/-- R86: whether a LIVE snapshot of the volume holds content born at `birth` and dead at `death`. -/
def hasHolder (V : Volume) (birth death : Nat) : Bool :=
  V.catalogue.any fun p => p.state = .live ∧ birth ≤ p.epoch ∧ p.epoch < death

/-! ## The window -/

/-- R113: the window that the times give at a wall clock value. -/
def windowGiven (now opens closes : Nat) : WindowState :=
  let t := now % daySeconds
  if opens < closes then if opens ≤ t ∧ t < closes then .open_ else .closed
  else if closes < opens then if opens ≤ t ∨ t < closes then .open_ else .closed
  else .closed

/-- R113: the window given now. -/
def State.given (s : State) : WindowState := windowGiven s.clock.now s.settings.windowOpen s.settings.windowClose

/-- R113: the remaining window time. -/
def remainingWindow (s : State) : Nat :=
  let t := s.clock.now % daySeconds
  if s.clock.window = .open_ ∧ s.given = .open_ ∧ t ≠ s.settings.windowClose then
    (s.settings.windowClose + daySeconds - t) % daySeconds
  else 0

/-- R114: the comparison of the window given with the window state, while the clock is set. -/
def noteWindow (s : State) : State :=
  if s.clock.isSet ∧ s.given ≠ s.clock.window then
    if s.clock.windowDue = none then { s with clock.windowDue := some s.clock.now } else s
  else { s with clock.windowDue := none }

/-- R167: the active arbitration set. -/
def activeName (s : State) : SetName := match s.clock.window with | .open_ => .night | .closed => .day

/-! ## Pass queues -/

/-- R117: the target a volume's entry of a pass queue holds. -/
def queuedTarget (q : List (Nat × Nat)) (v : Nat) : Option Nat := (q.find? fun p => p.1 = v).map Prod.snd

/-- R117: the kept target and the merged indication of entering volume `v` with target `e`. -/
def passKept (q : List (Nat × Nat)) (v e : Nat) : Nat × Bool :=
  match queuedTarget q v with
  | none => (e, false)
  | some old => (max old e, true)

/-- R117: enters volume `v` with target `e` in the queue of channel `c`. -/
def enterPass (c : ChanId) (v e : Nat) (s : State) : State :=
  match queuedTarget (s.channels.get c).passQueue v with
  | none => takePin v e (modifyChannel c (fun x => { x with passQueue := x.passQueue ++ [(v, e)] }) s)
  | some old =>
    if old < e then
      dropPin v old (takePin v e
        (modifyChannel c (fun x => { x with passQueue := x.passQueue.map fun p => if p.1 = v then (v, e) else p }) s))
    else s

/-- R66, R67: a volume with an entry in a pass queue or a pass on a channel. -/
def inDuplication (s : State) (v : Nat) : Bool :=
  four.any fun c =>
    (s.channels.get c).passQueue.any (fun p => p.1 = v) ∨ ((s.channels.get c).pass.map (·.volume)) = some v

/-! ## The seal queue -/

/-- R71: whether a spacing holds since a last seal time. -/
def spacingHolds (now : Nat) (last : Option Nat) (spacing : Nat) : Bool :=
  match last with
  | none => true
  | some t => t + spacing ≤ now

/-- R72: the pool spacing holds; a spacing of 0 makes it hold at every moment. -/
def poolSpacingHolds (s : State) : Bool :=
  s.settings.poolSpacing = 0 || spacingHolds s.clock.now s.settings.poolLastSeal s.settings.poolSpacing

/-- R71: an eligible entry of the seal queue. -/
def sealEligible (s : State) (e : SealEntry) : Bool :=
  match volume? s e.volume with
  | none => false
  | some V =>
    spacingHolds s.clock.now V.lastSeal V.spacing && poolSpacingHolds s

end Sys2Proof.Machine
end

