-- ==== Sys2Proof/Machine/Admission.lean ====
section
/-! DEFINITION. The admission computation of Chapter 2 (R23 to R30). -/

namespace Sys2Proof.Machine

/-- R25: the effective use of an account, a person's on its figures or a group's on its aggregates. -/
def effectiveUse (a : Account) : Nat :=
  a.figures.used + a.figures.pending + a.figures.hold + retentionCharge a.figures.retained a.percent

/-- R25: the effective limit of a person. -/
def effectiveLimit (p : Person) : Nat :=
  match p.quota with
  | .lapsed => softLimit p
  | _ => p.hard

/-- R26: the own headroom. -/
def ownHeadroom (a : Account) (p : Person) : Nat := effectiveLimit p - effectiveUse a

/-- R27: the group headroom; none when the group term is absent. -/
def groupHeadroom (s : State) (p : Person) : Option Nat :=
  match p.parent.bind (look s.accounts) with
  | none => none
  | some G =>
    match G.body with
    | .group g => g.hard.map (· - effectiveUse G)
    | .person _ => none

/-- R28: the pool headroom. -/
def poolHeadroom (s : State) (p : Person) : Nat := if p.service then s.pool.free else s.pool.free - s.pool.floor

/-- The lesser of a number and a term that may be absent. -/
def minTerm (n : Nat) : Option Nat → Nat
  | none => n
  | some m => min n m

/-- R29: the headroom is the least of the terms present. -/
def headroomOf (own : Nat) (group pool : Option Nat) : Nat := minTerm (minTerm own group) pool

/-- R29: the code of the term that gives the least value, the first in the order OWN_LIMIT, GROUP_LIMIT, POOL_LIMIT. -/
def limitingTerm (own : Nat) (group pool : Option Nat) : Code :=
  if own = headroomOf own group pool then .ownLimit
  else if group = some (headroomOf own group pool) then .groupLimit
  else .poolLimit

/-- R39: the terms of a person's admission. -/
def termsOf (s : State) (a : Account) (p : Person) : Terms := ⟨ownHeadroom a p, groupHeadroom s p, poolHeadroom s p⟩

end Sys2Proof.Machine
end

