-- ==== Sys2Proof/Machine/Turns.lean ====
section
/-! DEFINITION. Table arbitration (Chapter 10): what the nine agents present, how the arbiter decides a turn, what a
grant does to the pointers and ages, and the turn of an agent, which every command taken at a table turn goes through. -/

namespace Sys2Proof.Machine

/-- What a command answers. -/
abbrev Result := Host.Outcome State Fault Refusal

/-! ## Agents: H0 to H3 are 0 to 3 -/

def agentMG : Nat := 4
def agentRS : Nat := 5
def agentSN : Nat := 6
def agentDP : Nat := 7
def agentCK : Nat := 8

/-- The agent of a link. -/
def agentOf : Link → Nat
  | .head h => h.val
  | .mgmt => agentMG

/-! ## What is ready -/

/-- R163, Table 10-1: the class of a request. -/
def requestClass : Request → OpClass
  | .queryAccount _ => .lookup
  | .queryVolume _ => .lookup
  | .queryArbiter => .lookup
  | .cursorRead .. => .lookup
  | _ => .update

/-- R71: whether the seal queue holds an eligible entry. -/
def sealReady (s : State) : Bool := s.epu.sealQueue.any (sealEligible s)

/-- R88: whether the expiry queue holds a snapshot. -/
def walkReady (s : State) : Bool := !s.epu.expiryQueue.isEmpty

/-- R71: what the epoch unit presents. -/
def snNext (s : State) : Option SnWork :=
  match sealReady s, walkReady s with
  | true, true => some (match s.epu.lastTurn with | .sealOp => .walkStep | .walkStep => .sealOp)
  | true, false => some .sealOp
  | false, true => some .walkStep
  | false, false => none

/-- R120, R124, R131: the table work a channel has ready. -/
def dpReady (s : State) (c : ChanId) : Option DpWork :=
  let x := s.channels.get c
  match x.state, x.pass with
  | .idle, _ =>
    if x.settings.enable ∧ x.passQueue ≠ [] ∧ (s.clock.window = .open_ ∨ x.settings.windowOverride) then some .start else none
  | .stopped, _ => none
  | st, some p =>
    if p.phase = .close then if p.closeAccepted then some .complete else none
    else if (st = .streaming ∨ st = .probing) ∧ p.stall = .none then some .evaluate else none
  | _, none => none

/-- R120: the channel that the duplication unit chooses, in round-robin order after the channel it served last. -/
def dpNext (s : State) : Option (ChanId × DpWork) :=
  (afterFour s.dpu.lastServed).findSome? fun c => (dpReady s c).map fun w => (c, w)

/-- R120, Table 10-1: the class of duplication work. -/
def dpClass : DpWork → OpClass
  | .evaluate => .lookup
  | _ => .update

/-- R157, R158, R171, R98, R71, R120: what an agent other than CK has to present. -/
def nextWork (s : State) (a : Nat) : Option (OpClass × Work) :=
  if h : a < 4 then
    let x := s.heads.get ⟨a, h⟩
    if x.cleanup.isSome then some (.update, .link) else x.requests.head?.map fun q => (requestClass q.request, .link)
  else if a = agentMG then s.mlu.requests.head?.map fun q => (requestClass q.request, .link)
  else if a = agentRS then if s.rsq.contexts = [] then none else some (.update, .restoreStep)
  else if a = agentSN then (snNext s).map fun w => (.update, .sn w)
  else if a = agentDP then (dpNext s).map fun p => (dpClass p.2, .dp p.1 p.2)
  else none

/-- R162: an agent with no operation waiting presents its next one, at age 0. -/
def presentAgent (s : State) (a : Nat) : State :=
  match look s.arb.waiting a with
  | some _ => s
  | none =>
    match nextWork s a with
    | none => s
    | some (cls, w) => { s with arb.waiting := put s.arb.waiting a ⟨cls, 0, w⟩ }

/-- R162, R177: the agents present while the part runs. -/
def present (s : State) : State := if s.part = .running then (List.range 8).foldl presentAgent s else s

/-! ## The clock unit's due work -/

/-- The earliest of some due work; the first listed among equal values. -/
def earliest (l : List (Nat × CkWork)) : Option (Nat × CkWork) :=
  l.foldl (fun best x =>
    match best with
    | none => some x
    | some b => if x.1 < b.1 then some x else best) none

/-- R54: the expired OPEN slots of a head, by slot number. -/
def expiredSlots (s : State) (h : HeadId) : List (Nat × CkWork) :=
  ((s.heads.get h).slots.zipIdx).filterMap fun p =>
    match p.1.reservation with
    | some r => if r.state = .open_ ∧ r.deadline ≤ s.clock.now then some (r.deadline, .lapse h p.2 p.1.generation) else none
    | none => none

/-- R54: the expired reservation that lapses first. -/
def dueLapse (s : State) : Option (Nat × CkWork) := earliest (four.flatMap (expiredSlots s))

/-- R33: the expired grace deadline that lapses first, while the hold is off and the clock is set. R163 does not say at
which value a lapse fell due whose deadline was reached while the hold was on or the clock unset. DESIGN CHOICE, unsafe: at
its deadline (notes/assumptions/51.md). -/
def dueGrace (s : State) : Option (Nat × CkWork) :=
  if s.clock.isSet ∧ s.settings.graceHold = false then
    earliest (s.accounts.filterMap fun p =>
      match p.2.body with
      | .person ⟨_, _, _, _, _, .overSoft d⟩ => if d ≤ s.clock.now then some (d, .grace p.1) else none
      | _ => none)
  else none

/-- R114: the window event, while the clock is set and the window given differs. -/
def dueWindow (s : State) : Option (Nat × CkWork) :=
  if s.clock.isSet ∧ s.given ≠ s.clock.window then s.clock.windowDue.map fun t => (t, .window) else none

/-- R163: the due work of least due value; more than one when kinds tie. -/
def dueFirst (s : State) : List (Nat × CkWork) :=
  let due := [dueWindow s, dueLapse s, dueGrace s].filterMap id
  match earliest due with
  | none => []
  | some b => due.filter fun x => x.1 = b.1

/-- Presents one piece of clock work, in class UPDATE. -/
def presentClockWork (w : CkWork) (s : State) : State :=
  { s with arb.waiting := put s.arb.waiting agentCK ⟨.update, 0, .ck w⟩ }

/-- R163: the clock unit presents its due work one operation at a time, in the order of the due values. Among kinds due
at the same value it takes the one `prefer` names, else a free choice (notes/assumptions/2.md). -/
def presentClock (prefer : CkWork → Bool) (s : State) : State :=
  match look s.arb.waiting agentCK with
  | some _ => s
  | none =>
    match dueFirst s with
    | [] => s
    | [x] => presentClockWork x.2 s
    | x :: y :: l =>
      match (x :: y :: l).find? fun z => prefer z.2 with
      | some z => presentClockWork z.2 s
      | none =>
        let n := (x :: y :: l).length
        presentClockWork ((x :: y :: l).getD (Config.clockTie s.arb.choices n % n) x).2
          { s with arb.choices := s.arb.choices + 1 }

/-! ## The decision of a turn -/

/-- R167: the active set. -/
def activeSet (s : State) : ArbSet := match activeName s with | .day => s.settings.day | .night => s.settings.night

/-- R164: whether a waiting operation of class `cls` matches a qualifier. -/
def fits (cls : OpClass) : Qualifier → Bool
  | .any => true
  | .update => cls = .update
  | .lookup => cls = .lookup

/-- R164: whether an entry matches a waiting operation. -/
def entryMatches (waiting : Table Waiting) (e : ArbEntry) : Bool :=
  match look waiting e.agent with
  | some w => fits w.cls e.qualifier
  | none => false

/-- R164, check 1: the aged operation with the greatest age, the lower agent number among equal ages. -/
def agedWinner (waiting : Table Waiting) : Option Nat :=
  (waiting.foldl (fun best p =>
    if 64 ≤ p.2.age then
      match best with
      | none => some (p.1, p.2.age)
      | some b => if b.2 < p.2.age then some (p.1, p.2.age) else best
    else best) (none : Option (Nat × Nat))).map Prod.fst

/-- R164, check 4: the first waiting agent in cyclic order after the last round-robin winner. -/
def roundRobinWinner (waiting : Table Waiting) (last : Nat) : Option Nat :=
  ((List.range 9).map fun i => (last + 1 + i) % 9).find? fun a => (look waiting a).isSome

/-- R164: the agent that the checks name, and whether check 4 named it. -/
def decideTurn (waiting : Table Waiting) (set : ArbSet) (pointer last : Nat) : Option (Nat × Bool) :=
  match agedWinner waiting with
  | some a => some (a, false)
  | none =>
    match (set.slots[pointer]?).filter (entryMatches waiting) with
    | some e => some (e.agent, false)
    | none =>
      match set.priority.find? (entryMatches waiting) with
      | some e => some (e.agent, false)
      | none => (roundRobinWinner waiting last).map fun a => (a, true)

/-- R164: the agent that wins the next turn of this state. -/
def winner (s : State) : Option (Nat × Bool) :=
  decideTurn s.arb.waiting (activeSet s) s.arb.slotPointer s.arb.roundRobin

/-- R165: the slot pointer after a grant. -/
def nextPointer (set : ArbSet) (pointer : Nat) : Nat := if pointer + 1 < set.slots.length then pointer + 1 else 0

/-- R165, R166: the grant of a turn to agent `a`: the pointers move, its operation waits no more and every other waiting
operation ages by one. -/
def grantTurn (a : Nat) (byRoundRobin : Bool) (s : State) : State :=
  { s with arb := { s.arb with
      slotPointer := nextPointer (activeSet s) s.arb.slotPointer
      roundRobin := if byRoundRobin then a else s.arb.roundRobin
      waiting := mapTable (fun w => { w with age := w.age + 1 }) (unlist s.arb.waiting a) } }

/-- R162: the table turn of agent `a`. When the part runs, the arbiter's decision names `a` and the operation is the one
the command stands for, the turn is granted, its work is done whole, and the agents present at its end. In every other
case this turn is not what happens in this state, and the command has no effect (notes/assumptions/5.md). -/
def turn (a : Nat) (isIt : Bool) (work : State → State) (s : State) : State :=
  if s.part = .running ∧ isIt then
    match winner s with
    | some (b, rr) => if b = a then present (work (grantTurn a rr s.fresh)) else s.fresh
    | none => s.fresh
  else s.fresh

/-! ## Turns of requests -/

/-- The request queue of a link. -/
def requestsOf (s : State) : Link → List Queued
  | .head h => (s.heads.get h).requests
  | .mgmt => s.mlu.requests

/-- R157: the front request leaves the queue. -/
def popRequest (link : Link) (s : State) : State :=
  match link with
  | .head h => modifyHead h (fun x => { x with requests := x.requests.tail }) s
  | .mgmt => { s with mlu.requests := s.mlu.requests.tail }

/-- R157, R158: whether the request that the link's agent presents is the one named. -/
def presents (s : State) (link : Link) (tag : Nat) (r : Request) : Bool :=
  (match link with
    | .head h => (s.heads.get h).cleanup.isNone
    | .mgmt => true) &&
  match (requestsOf s link).head? with
  | some q => q.tag = tag ∧ q.request = r
  | none => false

/-- The incarnation that the front request of a link carried. -/
def frontIncarnation (s : State) (link : Link) : Nat := (((requestsOf s link).head?).map (·.incarnation)).getD 0

/-- R157, R171: the turn that takes the front request of a link whole. `work` gets the incarnation it carried. -/
def requestTurn (link : Link) (tag : Nat) (r : Request) (work : Nat → State → State) (s : State) : State :=
  turn (agentOf link) (presents s link tag r) (fun t => work (frontIncarnation s link) (popRequest link t)) s

/-- R171: the turn that takes a management request and is answered with the reply that `work` gives. -/
def managementTurn (tag : Nat) (r : Request) (work : State → State × Reply) (s : State) : State :=
  requestTurn .mgmt tag r (fun i t => answer (requestKind r) .mgmt i tag (work t).2 (work t).1) s

/-- Whether agent `a` waits with the work named. -/
def waitsWith (s : State) (a : Nat) (w : Work) : Bool := ((look s.arb.waiting a).map (·.work)) = some w

/-- The turn of agent CK, at whose end the clock unit presents its next due work. -/
def clockTurn (isIt : Bool) (work : State → State) (s : State) : State :=
  turn agentCK isIt (fun t => presentClock (fun _ => false) (work t)) s

end Sys2Proof.Machine
end

