-- ==== Sys2Proof/Machine/Accounts.lean ====
section
/-! DEFINITION. Chapter 2: the administration and query of accounts, the grace hold and the grace lapse, and
SET_FLOOR (R7). -/

namespace Sys2Proof.Machine

/-! ## SET_FLOOR -/

/-- R7: the turn that takes a SET_FLOOR. -/
def execSetFloor (tag floor : Nat) (s : State) : Result :=
  .next (managementTurn tag (.setFloor floor) (fun t =>
    ({ t with pool.floor := min floor t.pool.capacity }, .stored (min floor t.pool.capacity))) s)

/-! ## CREATE_ACCOUNT -/

/-- R18: whether a number holds a GROUP account. -/
def isGroup (s : State) (n : Nat) : Bool :=
  match account? s n with
  | some ⟨.group _, _, _, _⟩ => true
  | _ => false

/-- R18: the number of GROUP accounts. -/
def groupCount (s : State) : Nat :=
  (s.accounts.filter fun p => match p.2.body with | .group _ => true | .person _ => false).length

/-- R35: the settings after clamping. -/
def clampSettings (x : AccountSettings) : AccountSettings :=
  { hard := x.hard.map (min maxCapacity)
    soft := x.soft.map (min ((x.hard.map (min maxCapacity)).getD 0))
    grace := min x.grace 2592000, percent := min x.percent 100, service := x.service }

/-- R35: the settings that belong to a kind. -/
def storedSettings (kind : AccountKind) (x : AccountSettings) : AccountSettings :=
  match kind with
  | .person => clampSettings x
  | .group => { hard := (clampSettings x).hard, soft := none, grace := 0, percent := (clampSettings x).percent, service := false }

/-- R35: the checks of a CREATE_ACCOUNT. The account table has entries for 1 to 65,535 (R18), so a number above that
is handled with number 0. -/
def createCheck (s : State) (n : Nat) (kind : AccountKind) (x : AccountSettings) (parent : Option Nat) : Option Code :=
  if n = 0 ∨ 65535 < n ∨ (kind = .person ∧ x.hard = none) then some .badArgument
  else if (account? s n).isSome then some .exists_
  else if kind = .group ∧ 4096 ≤ groupCount s then some .groupsFull
  else match kind, parent with
    | .person, some g =>
      if (account? s g).isNone then some .noAccount else if isGroup s g then none else some .notGroup
    | _, _ => none

/-- R20: changes the member count of a group. -/
def changeMembers (g : Option Nat) (f : Nat → Nat) (s : State) : State :=
  match g with
  | none => s
  | some g => modifyAccount g (fun a =>
      match a.body with
      | .group x => { a with body := .group { x with members := f x.members } }
      | .person _ => a) s

/-- R35: a new record. -/
def newAccount (kind : AccountKind) (x : AccountSettings) (parent : Option Nat) : Account where
  body := match kind with
    | .person => .person ⟨parent, x.service, x.hard.getD 0, x.soft, x.grace, .under⟩
    | .group => .group ⟨x.hard, 0⟩
  percent := x.percent
  figures := ⟨0, 0, 0, 0⟩
  stats := ⟨0, 0, 0, 0, 0⟩

/-- R35: what the turn of a CREATE_ACCOUNT does, and its reply. -/
def doCreateAccount (n : Nat) (kind : AccountKind) (x : AccountSettings) (parent : Option Nat) (s : State) : State × Reply :=
  match createCheck s n kind x parent with
  | some c => (s, .code c)
  | none =>
    let y := storedSettings kind x
    (changeMembers (if kind = .person then parent else none) (· + 1)
      { s with accounts := put s.accounts n (newAccount kind y parent) },
     .accountCreated y (if kind = .person then parent else none))

/-- The turn that takes a CREATE_ACCOUNT. -/
def execCreateAccount (tag n : Nat) (kind : AccountKind) (x : AccountSettings) (parent : Option Nat) (s : State) : Result :=
  .next (managementTurn tag (.createAccount n kind x parent) (doCreateAccount n kind x parent) s)

/-! ## SET_LIMITS -/

/-- R36: a person's record under new settings. -/
def personLimits (p : Person) (y : AccountSettings) : Person :=
  { p with hard := y.hard.getD 0, soft := y.soft, grace := y.grace, service := y.service }

/-- R36: what the turn of a SET_LIMITS does, and its reply. A set for a person without a hard limit is not a complete
set in the form of CREATE_ACCOUNT and is refused as there (notes/assumptions/6.md). -/
def doSetLimits (n : Nat) (x : AccountSettings) (s : State) : State × Reply :=
  match account? s n with
  | none => (s, .code .noAccount)
  | some a =>
    match a.body with
    | .group g =>
      let y := storedSettings .group x
      (modifyAccount n (fun a => { a with body := .group { g with hard := y.hard }, percent := y.percent }) s, .accountStored y)
    | .person p =>
      if x.hard = none then (s, .code .badArgument)
      else
        let y := storedSettings .person x
        let t := modifyAccount n (fun a => { a with body := .person (personLimits p y), percent := y.percent }) s
        (if p.hard = y.hard.getD 0 ∧ p.soft = y.soft ∧ a.percent = y.percent then t else reevaluate n t, .accountStored y)

/-- The turn that takes a SET_LIMITS. -/
def execSetLimits (tag n : Nat) (x : AccountSettings) (s : State) : Result :=
  .next (managementTurn tag (.setLimits n x) (doSetLimits n x) s)

/-! ## SET_PARENT -/

/-- R37: adds the figures of a member to a group's aggregates. -/
def addFigures (f g : Figures) : Figures := ⟨g.used + f.used, g.pending + f.pending, g.hold + f.hold, g.retained + f.retained⟩
/-- R37: subtracts them. -/
def subFigures (f g : Figures) : Figures := ⟨g.used - f.used, g.pending - f.pending, g.hold - f.hold, g.retained - f.retained⟩

/-- Changes the aggregates of a group that may be absent. -/
def changeAggregates (g : Option Nat) (f : Figures → Figures) (s : State) : State :=
  match g with
  | none => s
  | some g => modifyAccount g (fun a => { a with figures := f a.figures }) s

/-- R37: the checks of a SET_PARENT. R37 names three refusals and, unlike R35, no order among them. DESIGN CHOICE, unsafe:
NO_ACCOUNT for either number comes before NOT_PERSON, and NOT_PERSON before NOT_GROUP (notes/assumptions/42.md). -/
def parentCheck (s : State) (n : Nat) (parent : Option Nat) : Option Code :=
  match account? s n with
  | none => some .noAccount
  | some a =>
    if (parent.map fun g => (account? s g).isNone) = some true then some .noAccount
    else match a.body with
      | .group _ => some .notPerson
      | .person _ => if (parent.map fun g => isGroup s g) = some false then some .notGroup else none

/-- R37: moves a person from its parent group to another. -/
def moveParent (n : Nat) (a : Account) (p : Person) (parent : Option Nat) (s : State) : State :=
  let s := changeMembers p.parent (· - 1) (changeAggregates p.parent (subFigures a.figures) s)
  let s := changeMembers parent (· + 1) (changeAggregates parent (addFigures a.figures) s)
  modifyAccount n (fun a => { a with body := .person { p with parent := parent } }) s

/-- R37: what the turn of a SET_PARENT does, and its reply. -/
def doSetParent (n : Nat) (parent : Option Nat) (s : State) : State × Reply :=
  match parentCheck s n parent with
  | some c => (s, .code c)
  | none =>
    match account? s n with
    | some a =>
      match a.body with
      | .person p => if p.parent = parent then (s, .code .ok) else (moveParent n a p parent s, .code .ok)
      | .group _ => (s, .code .notPerson)
    | none => (s, .code .noAccount)

/-- The turn that takes a SET_PARENT. -/
def execSetParent (tag n : Nat) (parent : Option Nat) (s : State) : Result :=
  .next (managementTurn tag (.setParent n parent) (doSetParent n parent) s)

/-! ## DELETE_ACCOUNT -/

/-- R38: whether an account may not be removed. -/
def accountBusy (s : State) (n : Nat) (a : Account) : Bool :=
  match a.body with
  | .group g => 0 < g.members
  | .person _ => a.figures ≠ ⟨0, 0, 0, 0⟩ || s.rsq.contexts.any fun c => c.target = n

/-- R38: what the turn of a DELETE_ACCOUNT does, and its reply. -/
def doDeleteAccount (n : Nat) (s : State) : State × Reply :=
  match account? s n with
  | none => (s, .code .noAccount)
  | some a =>
    if accountBusy s n a then (s, .code .notEmpty)
    else (changeMembers (parentOf a) (· - 1) { s with accounts := unlist s.accounts n }, .code .ok)

/-- The turn that takes a DELETE_ACCOUNT. -/
def execDeleteAccount (tag n : Nat) (s : State) : Result :=
  .next (managementTurn tag (.deleteAccount n) (doDeleteAccount n) s)

/-! ## QUERY_ACCOUNT -/

/-- R39: the reply of a QUERY_ACCOUNT. -/
def accountReply (s : State) (n : Nat) : Reply :=
  match account? s n with
  | none => .code .noAccount
  | some a =>
    .account { account := n, body := a.body, percent := a.percent, figures := a.figures,
               charge := retentionCharge a.figures.retained a.percent
               use := match a.body with | .person _ => standingUse a | .group _ => effectiveUse a
               terms := match a.body with | .person p => some (termsOf s a p) | .group _ => none }

/-- R39: the turn that takes a QUERY_ACCOUNT. -/
def execQueryAccount (link : Link) (tag n : Nat) (s : State) : Result :=
  .next (requestTurn link tag (.queryAccount n) (fun i t => answer 0x17 link i tag (accountReply t n) t) s)

/-! ## The grace hold and the grace lapse -/

/-- R34: moves the grace deadline of an OVER_SOFT account later by `d`. -/
def delayGrace (d : Nat) (a : Account) : Account :=
  match a.body with
  | .person ⟨pa, se, ha, so, gr, .overSoft t⟩ => { a with body := .person ⟨pa, se, ha, so, gr, .overSoft (deadlineAt t d)⟩ }
  | _ => a

/-- R34: what a SET_GRACE_HOLD does. -/
def setGraceHold (on : Bool) (s : State) : State :=
  match on, s.settings.graceHold with
  | true, false => { s with settings := { s.settings with graceHold := true, graceStart := s.clock.now } }
  | false, true =>
    { s with settings.graceHold := false, accounts := mapTable (delayGrace (s.clock.now - s.settings.graceStart)) s.accounts }
  | _, _ => s

/-- R34: the turn that takes a SET_GRACE_HOLD. -/
def execSetGraceHold (tag : Nat) (on : Bool) (s : State) : Result :=
  .next (managementTurn tag (.setGraceHold on) (fun t => (setGraceHold on t, .graceHold (setGraceHold on t).settings.graceHold)) s)

/-- R33: a grace deadline has expired, and the clock unit presents its due work. -/
def execGraceDeadlineExpiry (s : State) : Result :=
  .next (if s.part = .running ∧ (dueGrace s).isSome then
      presentClock (fun w => match w with | .grace _ => true | _ => false) s.fresh
    else s.fresh)

/-- R33: the turn of a grace lapse at the account named. -/
def lapseGrace (n : Nat) (s : State) : State :=
  match look s.accounts n with
  | none => s
  | some a =>
    match a.body with
    | .group _ => s
    | .person p =>
      match p.quota with
      | .overSoft d => if d ≤ s.clock.now ∧ s.settings.graceHold = false then setQuota n a p .lapsed s else s
      | _ => s

/-- The account whose grace lapse agent CK waits with, if it waits with one. -/
def waitingGrace (s : State) : Option Nat :=
  match look s.arb.waiting agentCK with
  | some ⟨_, _, .ck (.grace n)⟩ => some n
  | _ => none

/-- R33: the CK turn of a grace lapse. -/
def execGraceLapse (s : State) : Result :=
  .next (match waitingGrace s with
    | some n => clockTurn true (lapseGrace n) s
    | none => s.fresh)

end Sys2Proof.Machine
end

