-- ==== Sys2Proof/Machine/Clock.lean ====
section
/-! DEFINITION. The wall clock (R175, R176): its tick, the loss of the backup supply, and SET_CLOCK. -/

namespace Sys2Proof.Machine

/-! ## The tick and the backup supply -/

/-- R175: the clock one second later. -/
def tickClock (c : Clock) : Clock := { c with now := min (c.now + 1) clockMax }

/-- R175: a second passes while the part has supply or backup supply. Without either the clock stands still. While the
part has supply the clock unit makes the comparison of R114. -/
def wallClockTick (s : State) : State :=
  match s.part with
  | .off => if s.clock.backupLost then s else { s with clock := tickClock s.clock }
  | _ => noteWindow { s with clock := tickClock s.clock }

/-- R175: the wall clock advances by one second; what became ready by it is presented. -/
def execWallClockTick (s : State) : Result := .next (present (wallClockTick s.fresh))

/-- R175: the backup supply is lost; what that does to the clock shows at the next power-on
(notes/assumptions/11.md). -/
def execBackupSupplyLoss (s : State) : Result := .next { s.fresh with clock.backupLost := true }

/-! ## SET_CLOCK -/

/-- R176: an absolute time moved with the clock from `old` to `new`, kept within the ends of the clock. -/
def moveTime (old new x : Nat) : Nat := min (x + new - old) clockMax

/-- R176: the grace deadline of an OVER_SOFT account is moved. -/
def moveGrace (f : Nat → Nat) (a : Account) : Account :=
  match a.body with
  | .person p =>
    match p.quota with
    | .overSoft d => { a with body := .person { p with quota := .overSoft (f d) } }
    | _ => a
  | .group _ => a

/-- R176: the deadline of an OPEN slot is moved; that of a LAPSED slot is not. -/
def moveSlot (f : Nat → Nat) (x : Slot) : Slot :=
  { x with reservation := x.reservation.map fun r => if r.state = .open_ then { r with deadline := f r.deadline } else r }

/-- R176: every absolute time held by the part is moved. -/
def moveTimes (f : Nat → Nat) (s : State) : State :=
  { s with
    accounts := mapTable (moveGrace f) s.accounts
    volumes := mapTable (fun V => { V with lastSeal := V.lastSeal.map f }) s.volumes
    settings := { s.settings with graceStart := f s.settings.graceStart, poolLastSeal := s.settings.poolLastSeal.map f }
    heads := s.heads.map fun H => { H with slots := H.slots.map (moveSlot f) }
    channels := s.channels.map fun x => { x with deadline := x.deadline.map f, probeDue := x.probeDue.map f } }

/-- R176: what the turn of a SET_CLOCK does, and its reply. -/
def doSetClock (value : Nat) (s : State) : State × Reply :=
  let new := min value clockMax
  let old := s.clock.now
  let t := if s.clock.isSet then moveTimes (moveTime old new) s else s
  (noteWindow { t with clock := { t.clock with now := new, isSet := true } },
    .clock old new (if s.clock.isSet then some ((new : Int) - (old : Int)) else none))

/-- R176: the turn that takes a SET_CLOCK. -/
def execSetClock (tag value : Nat) (s : State) : Result := .next (managementTurn tag (.setClock value) (doSetClock value) s)

end Sys2Proof.Machine
end

