-- ==== Sys2Proof/Machine/Volumes.lean ====
section
/-! DEFINITION. Chapters 4 and 5: volumes, the seal queue and its seal operation, EXPIRE, the pool seal spacing, the
query of a volume, and the expiry walk. -/

namespace Sys2Proof.Machine

/-! ## Creating, setting and deleting volumes -/

/-- R65, R66: the settings stored for a volume. -/
def clampVolume (x : VolumeRequest) (c : ChanId) : VolumeStored := ⟨clamp 1 64 x.keep, clamp 60 86400 x.spacing, x.nightly, c⟩

/-- R65: a new volume. -/
def newVolume (y : VolumeStored) : Volume where
  openEpoch := 1
  lastSeal := none
  keep := y.keep
  spacing := y.spacing
  nightly := y.nightly
  channel := y.channel
  shippedBase := 0
  shipMark := 0
  needsRebase := false
  held := 0
  chainHead := none
  chainTail := none
  chainCount := 0
  catalogue := []

/-- R65: what the turn of a CREATE_VOLUME does, and its reply. R65 gives BAD_ARGUMENT and EXISTS no order. DESIGN CHOICE,
unsafe: BAD_ARGUMENT comes before EXISTS (notes/assumptions/45.md). -/
def doCreateVolume (v : Nat) (x : VolumeRequest) (s : State) : State × Reply :=
  if 63 < v then (s, .code .badArgument)
  else match four? x.channel with
    | none => (s, .code .badArgument)
    | some c =>
      if (volume? s v).isSome then (s, .code .exists_)
      else ({ s with volumes := put s.volumes v (newVolume (clampVolume x c)) }, .volumeStored (clampVolume x c))

/-- The turn that takes a CREATE_VOLUME. -/
def execCreateVolume (tag v : Nat) (x : VolumeRequest) (s : State) : Result :=
  .next (managementTurn tag (.createVolume v x) (doCreateVolume v x) s)

/-- R66: stores the four settings, and makes a rotation check when the keep count has changed. -/
def storeVolume (v : Nat) (V : Volume) (y : VolumeStored) (s : State) : State :=
  let t := modifyVolume v (fun V => { V with keep := y.keep, spacing := y.spacing, nightly := y.nightly, channel := y.channel }) s
  if V.keep = y.keep then t else rotationCheck v t

/-- R66: what the turn of a SET_VOLUME does, and its reply. R66 gives its refusals no order. DESIGN CHOICE, unsafe:
NO_VOLUME comes first, then BAD_ARGUMENT, then BUSY (notes/assumptions/46.md). -/
def doSetVolume (v : Nat) (x : VolumeRequest) (s : State) : State × Reply :=
  match volume? s v with
  | none => (s, .code .noVolume)
  | some V =>
    match four? x.channel with
    | none => (s, .code .badArgument)
    | some c =>
      if c ≠ V.channel ∧ inDuplication s v then (s, .code .busy)
      else (storeVolume v V (clampVolume x c) s, .volumeStored (clampVolume x c))

/-- The turn that takes a SET_VOLUME. -/
def execSetVolume (tag v : Nat) (x : VolumeRequest) (s : State) : Result :=
  .next (managementTurn tag (.setVolume v x) (doSetVolume v x) s)

/-- R67: what the turn of a DELETE_VOLUME does, and its reply. -/
def doDeleteVolume (v : Nat) (s : State) : State × Reply :=
  match volume? s v with
  | none => (s, .code .noVolume)
  | some V =>
    if s.epu.sealQueue.any (fun e => e.volume = v) || inDuplication s v then (s, .code .busy)
    else if 0 < V.held || !V.catalogue.isEmpty then (s, .code .notEmpty)
    else ({ s with volumes := unlist s.volumes v }, .code .ok)

/-- The turn that takes a DELETE_VOLUME. -/
def execDeleteVolume (tag v : Nat) (s : State) : Result := .next (managementTurn tag (.deleteVolume v) (doDeleteVolume v) s)

/-! ## The seal queue -/

/-- R69: the entry of a volume. -/
def sealEntry? (s : State) (v : Nat) : Option SealEntry := s.epu.sealQueue.find? fun e => e.volume = v

/-- R69: adds a waiter to the entry of a volume. -/
def joinEntry (v : Nat) (w : Waiter) (s : State) : State :=
  { s with epu.sealQueue := s.epu.sealQueue.map fun e => if e.volume = v then { e with waiters := e.waiters ++ [w] } else e }

/-- R69: creates an entry at the end of the queue. -/
def createEntry (v label : Nat) (w : Waiter) (s : State) : State :=
  { s with epu.sealQueue := s.epu.sealQueue ++ [⟨v, label, [w]⟩] }

/-- R69: the code that refuses a SEAL, or none. -/
def sealCheck (s : State) (v : Nat) : Option Code :=
  if (volume? s v).isNone then some .noVolume
  else match sealEntry? s v with
    | some e => if 8 ≤ e.waiters.length then some .busy else none
    | none => none

/-- R69: enters an accepted SEAL. -/
def enterSeal (v label : Nat) (w : Waiter) (s : State) : State :=
  match sealEntry? s v with
  | some _ => joinEntry v w s
  | none => createEntry v label w s

/-- R69: the waiter that a requester becomes. -/
def waiterOf (link : Link) (incarnation tag : Nat) : Waiter :=
  match link with
  | .head h => .head h incarnation tag
  | .mgmt => .mgmt tag

/-- R69: the turn that takes a SEAL. An accepted SEAL is not answered at its turn. -/
def execSeal (link : Link) (tag v label : Nat) (s : State) : Result :=
  .next (requestTurn link tag (.seal v label) (fun i t =>
    match sealCheck t v with
    | some c => answer 0x14 link i tag (.code c) t
    | none => enterSeal v label (waiterOf link i tag) t) s)

/-! ## The seal operation -/

/-- R73, R74: answers a waiter with `r`; a nightly trigger among the waiters takes `onNightly`. -/
def answerWaiter (r : Reply) (onNightly : State → State) (s : State) (w : Waiter) : State :=
  match w with
  | .head h i tag => answer 0x14 (.head h) i tag r s
  | .mgmt tag => answer 0x14 .mgmt 0 tag r s
  | .nightly => onNightly s

/-- R71: the entry leaves the queue. -/
def removeEntry (v : Nat) (s : State) : State := { s with epu.sealQueue := s.epu.sealQueue.filter fun e => e.volume ≠ v }

/-- R73: every waiter is refused and the entry is removed. -/
def refuseSeal (e : SealEntry) (c : Code) (s : State) : State :=
  e.waiters.foldl (answerWaiter (.code c) (placeMl (.nightlySkipped e.volume c))) (removeEntry e.volume s)

/-- R74: the snapshot record that a seal adds. -/
def sealedSnapshot (s : State) (V : Volume) (label : Nat) : Snapshot :=
  ⟨V.openEpoch, s.clock.now, label, .live, 0, false, s.journal.append⟩

/-- R74, steps 1 and 2. -/
def sealVolume (e : SealEntry) (s : State) : State :=
  let t := modifyVolume e.volume (fun V => { V with
    catalogue := V.catalogue ++ [sealedSnapshot s V e.label], openEpoch := V.openEpoch + 1, lastSeal := some s.clock.now }) s
  { t with settings.poolLastSeal := some s.clock.now }

/-- R74: the seal of the entry's volume, in the order of the rule. -/
def takeSeal (e : SealEntry) (V : Volume) (s : State) : State :=
  let t := removeEntry e.volume (sealVolume e s)
  let t := e.waiters.foldl (answerWaiter (.sealed e.volume V.openEpoch e.label) id) t
  let t := broadcast (·.selectSealed) (.sealed e.volume V.openEpoch s.clock.now e.label) t
  let t := if e.waiters.contains .nightly then enterPass V.channel e.volume V.openEpoch t else t
  rotationCheck e.volume t

/-- R71, R73, R74: what the turn of a seal operation does. With no eligible entry it changes nothing
(notes/assumptions/7.md). -/
def sealOperation (s : State) : State :=
  match s.epu.sealQueue.find? (sealEligible s) with
  | none => s
  | some e =>
    let s := { s with epu.lastTurn := .sealOp }
    match volume? s e.volume with
    | none => s
    | some V =>
      if 64 ≤ V.catalogue.length then refuseSeal e .full s
      else if maxEpoch ≤ V.openEpoch then refuseSeal e .epochExhausted s
      else takeSeal e V s

/-- The SN turn of a seal operation. -/
def execSealOperation (s : State) : Result := .next (turn agentSN (waitsWith s agentSN (.sn .sealOp)) sealOperation s)

/-! ## EXPIRE, SET_POOL_SPACING and QUERY_VOLUME -/

/-- R79, Table 4-5: what the turn of an EXPIRE does, and its reply. -/
def doExpire (v e : Nat) (s : State) : State × Reply :=
  match volume? s v with
  | none => (s, .code .noVolume)
  | some V =>
    match findSnapshot V e with
    | none => (s, .code .notLive)
    | some p =>
      match p.state with
      | .expiring => (s, .code .ok)
      | .live =>
        if p.pins = 0 then (expireSnapshot v e s, .code .ok)
        else (modifySnapshot v e (fun p => { p with expirePending := true }) s, .code .pending)

/-- The turn that takes an EXPIRE. -/
def execExpire (tag v e : Nat) (s : State) : Result := .next (managementTurn tag (.expire v e) (doExpire v e) s)

/-- R72: the turn that takes a SET_POOL_SPACING. -/
def execSetPoolSpacing (tag seconds : Nat) (s : State) : Result :=
  .next (managementTurn tag (.setPoolSpacing seconds) (fun t =>
    ({ t with settings.poolSpacing := min seconds 600 }, .stored (min seconds 600))) s)

/-- R81: the reply of a QUERY_VOLUME. -/
def volumeReply (s : State) (v : Nat) : Reply :=
  match volume? s v with
  | none => .code .noVolume
  | some V =>
    .volume { volume := v, openEpoch := V.openEpoch, lastSeal := V.lastSeal, keep := V.keep, spacing := V.spacing,
              nightly := V.nightly, channel := V.channel, shippedBase := V.shippedBase, shipMark := V.shipMark,
              needsRebase := V.needsRebase, held := V.held, chainCount := V.chainCount, catalogue := V.catalogue,
              waiters := (sealEntry? s v).map fun e => e.waiters.length }

/-- R81: the turn that takes a QUERY_VOLUME. -/
def execQueryVolume (link : Link) (tag v : Nat) (s : State) : Result :=
  .next (requestTurn link tag (.queryVolume v) (fun i t => answer 0x18 link i tag (volumeReply t v) t) s)

/-! ## The expiry walk -/

/-- R88: the walk that a step goes on with: the one in progress, or a new one of the front snapshot. -/
def walkInHand (s : State) : Option Walk :=
  match s.epu.walk, s.epu.expiryQueue with
  | some w, _ => some w
  | none, [] => none
  | none, (v, e) :: _ =>
    let V := volume? s v
    let tail := V.bind (·.chainTail)
    some ⟨v, e, V.bind (·.chainHead), tail, tail.isNone, 0, 0⟩

/-- R90: a free by the walk. -/
def walkFree (v x owner : Nat) (pred succ : Option Nat) (s : State) : State :=
  changeFigures owner (fun f => { f with retained := f.retained - 1 }) (enterFree x v (unlinkChain v pred succ s))

/-- R89: one record of the walk, with the owners whose extents the step has freed. -/
def walkRecord (s : State) (w : Walk) (owners : List Nat) (x : Nat) : State × Walk × List Nat :=
  match extentAt s.pool x, volume? s w.volume with
  | some (.retained v o b _ d pred succ), some V =>
    let w := { w with visited := w.visited + 1, position := succ, finished := w.finished || w.endMarker = some x }
    if b ≤ w.epoch ∧ w.epoch < d ∧ hasHolder V b d = false then
      (walkFree v x o pred succ s, { w with freed := w.freed + 1 }, if o ∈ owners then owners else owners ++ [o])
    else (s, w, owners)
  | _, _ => (s, { w with position := none }, owners)

/-- R89: the records of one step, at most `fuel` of them. -/
def walkRecords : Nat → State × Walk × List Nat → State × Walk × List Nat
  | 0, r => r
  | fuel + 1, (s, w, owners) =>
    if w.finished then (s, w, owners)
    else match w.position with
      | none => (s, w, owners)
      | some x => walkRecords fuel (walkRecord s w owners x)

/-- R91: the walk completes. -/
def completeWalk (w : Walk) (s : State) : State :=
  let s := modifyVolume w.volume (fun V => { V with catalogue := V.catalogue.filter fun p => p.epoch ≠ w.epoch }) s
  placeMl (.walkDone w.volume w.epoch w.visited w.freed)
    { s with epu := { s.epu with walk := none, expiryQueue := s.epu.expiryQueue.tail } }

/-- R88 to R91: what the turn of a walk step does. With an empty expiry queue it changes nothing. -/
def walkStep (s : State) : State :=
  if s.epu.expiryQueue = [] then s
  else match walkInHand s with
    | none => s
    | some w =>
      let r := walkRecords 32 ({ s with epu.lastTurn := .walkStep }, w, [])
      let t := r.2.2.foldl (fun t n => reevaluate n t) r.1
      if r.2.1.finished then completeWalk r.2.1 t else { t with epu.walk := some r.2.1 }

/-- The SN turn of a walk step. -/
def execWalkStep (s : State) : Result := .next (turn agentSN (waitsWith s agentSN (.sn .walkStep)) walkStep s)

end Sys2Proof.Machine
end

