-- ==== Sys2Proof/Machine/Passes.lean ====
section
/-! DEFINITION. Chapter 7: the window and its events, START_PASS and WITHDRAW_PASS, and a pass from its start over its
evaluation steps to its completion. -/

namespace Sys2Proof.Machine

/-! ## The window -/

/-- R113: what the turn of a SET_WINDOW does, and its reply. -/
def doSetWindow (opens closes : Nat) (s : State) : State × Reply :=
  if 86399 < opens ∨ 86399 < closes then (s, .code .badArgument)
  else (noteWindow { s with settings := { s.settings with windowOpen := opens, windowClose := closes } }, .window opens closes)

/-- The turn that takes a SET_WINDOW. -/
def execSetWindow (tag opens closes : Nat) (s : State) : Result :=
  .next (managementTurn tag (.setWindow opens closes) (doSetWindow opens closes) s)

/-- R114: the window given differs from the window state, and the clock unit presents its due work. -/
def execWindowChangeDetect (s : State) : Result :=
  .next (if s.part = .running ∧ (dueWindow s).isSome then
      presentClock (fun w => match w with | .window => true | _ => false) s.fresh
    else s.fresh)

/-- R70: enters the nightly trigger for one volume. -/
def enterNightly (s : State) (p : Nat × Volume) : State :=
  if p.2.nightly then
    match sealEntry? s p.1 with
    | none => createEntry p.1 0 .nightly s
    | some e =>
      if e.waiters.contains .nightly then s
      else if e.waiters.length < 8 then joinEntry p.1 .nightly s
      else placeMl (.nightlySkipped p.1 .busy) s
  else s

/-- R114, Table 7-1: the effects of an open event. -/
def openEvent (s : State) : State :=
  let s := { s with clock := { s.clock with window := .open_, windowDue := none }, arb.slotPointer := 0 }
  let s := s.volumes.foldl enterNightly s
  { s with channels := s.channels.map (openChannel s.clock.now) }

/-- R114, Table 7-1: the effects of a close event. -/
def closeEvent (s : State) : State :=
  { s with clock := { s.clock with window := .closed, windowDue := none }, arb.slotPointer := 0,
           channels := s.channels.map fun x => if x.settings.windowOverride then x else closeChannel x }

/-- R114: what the turn of a window event does: the comparison again, and the event it gives. -/
def windowEvent (s : State) : State :=
  match s.given, s.clock.window with
  | .open_, .closed => openEvent s
  | .closed, .open_ => closeEvent s
  | _, _ => s

/-- R114: the CK turn of a window event. -/
def execWindowEvent (s : State) : Result := .next (clockTurn (waitsWith s agentCK (.ck .window)) windowEvent s)

/-! ## START_PASS and WITHDRAW_PASS -/

/-- R118: the target of a START_PASS. -/
def passTarget (V : Volume) (target : Option Nat) : Option Nat :=
  match target with
  | none => (newestLive V).map (·.epoch)
  | some e => if ((findSnapshot V e).map (·.state)) = some .live then some e else none

/-- R118: what the turn of a START_PASS does, and its reply. R118 gives NOT_LIVE and NOT_NEWER no order. DESIGN CHOICE,
unsafe: NOT_LIVE comes before NOT_NEWER (notes/assumptions/47.md). -/
def doStartPass (v : Nat) (target : Option Nat) (s : State) : State × Reply :=
  match volume? s v with
  | none => (s, .code .noVolume)
  | some V =>
    match passTarget V target with
    | none => (s, .code .notLive)
    | some e =>
      if e ≤ V.shippedBase then (s, .code .notNewer)
      else
        let kept := passKept (s.channels.get V.channel).passQueue v e
        (enterPass V.channel v e s, .passEntered kept.1 kept.2)

/-- The turn that takes a START_PASS. -/
def execStartPass (tag v : Nat) (target : Option Nat) (s : State) : Result :=
  .next (managementTurn tag (.startPass v target) (doStartPass v target) s)

/-- Removes a volume's entry from a pass queue. -/
def unqueue (c : ChanId) (v : Nat) (s : State) : State :=
  modifyChannel c (fun x => { x with passQueue := x.passQueue.filter fun p => p.1 ≠ v }) s

/-- R119: what the turn of a WITHDRAW_PASS does, and its reply. -/
def doWithdrawPass (v : Nat) (s : State) : State × Reply :=
  match volume? s v with
  | none => (s, .code .noEntry)
  | some V =>
    match queuedTarget (s.channels.get V.channel).passQueue v with
    | none => (s, .code .noEntry)
    | some e => (dropPin v e (unqueue V.channel v s), .withdrawn e)

/-- The turn that takes a WITHDRAW_PASS. -/
def execWithdrawPass (tag v : Nat) (s : State) : Result := .next (managementTurn tag (.withdrawPass v) (doWithdrawPass v) s)

/-! ## Starting a pass -/

/-- R122: the mode of a pass that starts, and whether needs-rebase becomes SET. -/
def chooseMode (V : Volume) (oldest : Nat) : PassMode × Bool :=
  if V.shippedBase = 0 then (.rebase, false)
  else if V.needsRebase then (.rebase, false)
  else if V.shipMark < oldest then (.rebase, true)
  else (.delta, false)

/-- R121: the pass counter after a start. -/
def nextPassId (n : Nat) : Nat := if n = maxCount then 1 else n + 1

/-- R121, R122: the pass that starts. R122 gives a REBASE pass its end mark here, and R125 a DELTA pass at the end of its
stream. DESIGN CHOICE: until then a DELTA pass has no end mark, and the CHANNEL record shows it absent
(notes/assumptions/43.md). -/
def newPass (s : State) (v e : Nat) (V : Volume) : Pass :=
  let mode := (chooseMode V s.journal.oldest).1
  { id := s.settings.passCounter, volume := v, base := V.shippedBase, target := e, mode := mode, phase := .open_,
    cursor := match mode with | .delta => V.shipMark | .rebase => 0
    offset := 0
    endMark := match mode with | .delta => none | .rebase => (findSnapshot V e).map (·.mark)
    carries := 0, drops := 0, stall := .none, seq := 1, closeAccepted := false }

/-- R121: a pass of volume `v` to target `e` starts on channel `c`. -/
def startPass (c : ChanId) (v e : Nat) (V : Volume) (s : State) : State :=
  let p := newPass s v e V
  let s := { s with settings.passCounter := nextPassId s.settings.passCounter }
  let s := if (chooseMode V s.journal.oldest).2 then modifyVolume v (fun V => { V with needsRebase := true }) s else s
  if (s.channels.get c).staging = [] then
    stopWithNotice c .noStaging (modifyChannel c (fun x => { x with pass := some p, queue := [], batch := [] }) s)
  else modifyChannel c (fun x => { x with state := .streaming, pass := some p, queue := [.openPass], batch := [] }) s

/-- R121: what the turn of a pass start does on channel `c`. -/
def passStart (c : ChanId) (s : State) : State :=
  match (s.channels.get c).passQueue with
  | [] => s
  | (v, e) :: q =>
    let s := modifyChannel c (fun x => { x with passQueue := q }) s
    match volume? s v with
    | none => s
    | some V => if e ≤ V.shippedBase then placeMl (.passSkipped c v e) (dropPin v e s) else startPass c v e V s

/-- R120: the DP turn of one kind of work on the channel chosen at the presentation. When the work is no longer ready
for that channel the turn changes nothing (notes/assumptions/7.md). -/
def dpTurn (w : DpWork) (work : ChanId → State → State) (s : State) : State :=
  match look s.arb.waiting agentDP with
  | some ⟨_, _, .dp c w'⟩ =>
    turn agentDP (w' = w) (fun t => if dpReady t c = some w then work c { t with dpu.lastServed := c } else t) s
  | _ => s.fresh

/-- The DP turn of a pass start. -/
def execPassStart (s : State) : Result := .next (dpTurn .start passStart s)

/-! ## Evaluation -/

/-- R123: evaluation works on the channel's record, and begins pool reads. -/
structure Eval where
  channel : Channel
  reads   : List PoolRead

/-- R123: whether the stream queue holds a DROP. -/
def hasDrop (q : List StreamItem) : Bool := q.any fun i => match i with | .drop _ => true | _ => false

def modifyPass (f : Pass → Pass) (x : Channel) : Channel := { x with pass := x.pass.map f }

/-- R124: evaluation stalls. -/
def stallFor (w : Stall) (e : Eval) : Eval := { e with channel := modifyPass (fun p => { p with stall := w }) e.channel }

/-- R123: a flush of the drop batch. -/
def flushBatch (e : Eval) : Eval :=
  { e with channel := { modifyPass (fun p => { p with drops := satAdd p.drops e.channel.batch.length }) e.channel with
      queue := e.channel.queue ++ [.drop e.channel.batch], batch := [] } }

/-- R123: the lowest-numbered EMPTY staging slot. -/
def emptySlot (staging : List StagingSlot) : Option Nat := staging.findIdx? fun k => k = .empty

/-- R123, R137: assigns slot `k` to the CARRY of extent `x` with epoch `h`. -/
def placeCarry (c : ChanId) (p : Pass) (x h k : Nat) (e : Eval) : Eval :=
  { channel := { modifyPass (fun p => { p with carries := satAdd p.carries 1 }) e.channel with
      queue := e.channel.queue ++ [.carry x h k], staging := e.channel.staging.set k (.filling x p.id) }
    reads := e.reads ++ [⟨c, k, x, p.id, false⟩] }

/-- R123: carries extent `x` with epoch `h`, the drop batch flushed first; the flag tells a carry that was possible
from a stall. A flush that was possible stays made when the carry then stalls for a slot (notes/assumptions/8.md). -/
def carryExtent (c : ChanId) (p : Pass) (x h : Nat) (e : Eval) : Eval × Bool :=
  if e.channel.batch ≠ [] ∧ hasDrop e.channel.queue then (stallFor .flush e, false)
  else
    let e := if e.channel.batch = [] then e else flushBatch e
    match emptySlot e.channel.staging with
    | none => (stallFor .slot e, false)
    | some k => (placeCarry c p x h k e, true)

/-- R123: drops extent `x`; a batch that then holds 32 extents is flushed. -/
def dropExtent (x : Nat) (e : Eval) : Eval × Bool :=
  if 31 ≤ e.channel.batch.length then
    if hasDrop e.channel.queue then (stallFor .flush e, false)
    else (flushBatch { e with channel := { e.channel with batch := e.channel.batch ++ [x] } }, true)
  else ({ e with channel := { e.channel with batch := e.channel.batch ++ [x] } }, true)

/-- R125, R129: the stream ends: the drop batch is flushed, CLOSE_PASS is placed and the phase becomes CLOSE. -/
def endStream (e : Eval) : Eval :=
  if e.channel.batch ≠ [] ∧ hasDrop e.channel.queue then stallFor .flush e
  else
    let e := if e.channel.batch = [] then e else flushBatch e
    match e.channel.pass with
    | none => e
    | some p =>
      { e with channel := { modifyPass (fun p => { p with
          phase := .close, endMark := if p.mode = .delta then some p.cursor else p.endMark }) e.channel with
        queue := e.channel.queue ++ [.closePass p.carries p.drops] } }

/-- R126: whether an extent of a BIRTH entry with epoch `h` is carried. -/
def carriesBirth (p : Pass) (h : Nat) : Option Extent → Bool
  | some (.live v _ _ ship) => v = p.volume ∧ ship = h
  | some (.retained v _ _ ship d _ _) => v = p.volume ∧ ship = h ∧ p.target < d
  | _ => false

/-- R126, R127: evaluates one extent of an entry. -/
def evaluateExtent (c : ChanId) (pool : Pool) (p : Pass) (j : JournalEntry) (x : Nat) (e : Eval) : Eval × Bool :=
  match j.kind with
  | .birth => if carriesBirth p j.epoch (extentAt pool x) then carryExtent c p x j.epoch e else (e, true)
  | .death => if j.oldShip.getD 0 ≤ p.base then dropExtent x e else (e, true)

/-- R125: evaluates the extents of an entry from place `i`, `n` of them; the flag tells a finished entry from a stall,
which leaves the run offset on its extent. -/
def evaluateRun (c : ChanId) (pool : Pool) (p : Pass) (j : JournalEntry) : Nat → Nat → Eval → Eval × Bool
  | _, 0, e => (e, true)
  | i, n + 1, e =>
    match evaluateExtent c pool p j (j.first + i) e with
    | (e, true) => evaluateRun c pool p j (i + 1) n e
    | (e, false) => ({ e with channel := modifyPass (fun p => { p with offset := i }) e.channel }, false)

/-- R12: the entry of a sequence number. -/
def entryAt (j : Journal) (seq : Nat) : Option JournalEntry :=
  if j.oldest ≤ seq ∧ seq < j.append then j.entries[seq - j.oldest]? else none

/-- R125: moves the journal cursor past an entry. -/
def passEntry (e : Eval) : Eval := { e with channel := modifyPass (fun p => { p with cursor := p.cursor + 1, offset := 0 }) e.channel }

/-- R125: evaluates a DELTA pass from its cursor, at most `fuel` entries. The stream ends where the cursor reaches an
entry of the volume above the target, or A (notes/assumptions/9.md). -/
def evaluateDelta (c : ChanId) (pool : Pool) (journal : Journal) : Nat → Eval → Eval
  | fuel, e =>
    match e.channel.pass with
    | none => e
    | some p =>
      match entryAt journal p.cursor with
      | none => endStream e
      | some j =>
        if j.volume = p.volume ∧ p.target < j.epoch then endStream e
        else match fuel with
          | 0 => e
          | fuel + 1 =>
            if j.volume = p.volume then
              match evaluateRun c pool p j p.offset (j.count - p.offset) e with
              | (e, true) => evaluateDelta c pool journal fuel (passEntry e)
              | (e, false) => e
            else evaluateDelta c pool journal fuel (passEntry e)

/-- R129: the epoch with which an extent is carried in a sweep, or none when it is passed over. -/
def sweepEpoch (p : Pass) : Option Extent → Option Nat
  | some (.live v _ b _) => if v = p.volume ∧ b ≤ p.target then some b else none
  | some (.retained v _ b _ d _ _) => if v = p.volume ∧ b ≤ p.target ∧ p.target < d then some b else none
  | _ => none

/-- R129: evaluates a REBASE pass from its sweep cursor, at most `fuel` extents. -/
def evaluateRebase (c : ChanId) (pool : Pool) : Nat → Eval → Eval
  | fuel, e =>
    match e.channel.pass with
    | none => e
    | some p =>
      if pool.capacity ≤ p.cursor then endStream e
      else match fuel with
        | 0 => e
        | fuel + 1 =>
          match sweepEpoch p (extentAt pool p.cursor) with
          | none => evaluateRebase c pool fuel (passEntry e)
          | some b =>
            match carryExtent c p p.cursor b e with
            | (e, true) => evaluateRebase c pool fuel (passEntry e)
            | (e, false) => e

/-- R124: what the turn of an evaluation step does on channel `c`. -/
def evaluationStep (c : ChanId) (s : State) : State :=
  let x := s.channels.get c
  match x.pass with
  | none => s
  | some p =>
    let e := match p.mode with
      | .delta => evaluateDelta c s.pool s.journal 64 ⟨x, []⟩
      | .rebase => evaluateRebase c s.pool 64 ⟨x, []⟩
    { s with channels := s.channels.set c e.channel, dpu.readQueue := s.dpu.readQueue ++ e.reads }

/-- The DP turn of an evaluation step. -/
def execEvaluationStep (s : State) : Result := .next (dpTurn .evaluate evaluationStep s)

/-! ## Completion -/

/-- R131: the volume record after the completion of a pass. -/
def shippedVolume (p : Pass) (V : Volume) : Volume :=
  { V with shippedBase := p.target, shipMark := p.endMark.getD 0, needsRebase := false }

/-- R131: a channel after the completion of its pass, or after CLEAR has emptied its staging. -/
def idleChannel (x : Channel) : Channel :=
  { x with state := .idle, pass := none, queue := [], batch := [], failures := 0, suspendPending := false }

/-- R131: what the turn of a completion does on channel `c`. -/
def passCompletion (c : ChanId) (s : State) : State :=
  match (s.channels.get c).pass with
  | none => s
  | some p =>
    placeMl (.passDone c p.volume p.id p.mode p.target p.carries p.drops)
      (modifyChannel c idleChannel (dropPin p.volume p.target (modifyVolume p.volume (shippedVolume p) s)))

/-- The DP turn of a completion. -/
def execPassCompletion (s : State) : Result := .next (dpTurn .complete passCompletion s)

end Sys2Proof.Machine
end

