-- ==== Sys2Proof/Machine/Channels.lean ====
section
/-! DEFINITION. Chapter 8: the channel settings and commands, the link scheduler and its transmissions, the gateway's
responses and their timeouts, and the pool reads. -/

namespace Sys2Proof.Machine

/-- A command taken without a table turn, while the part runs: its effect, after which the agents present (R162). The
part does nothing of it without supply or during a start scan (R177). -/
def event (f : State → State) (s : State) : State := if s.part = .running then present (f s.fresh) else s.fresh

/-! ## SET_CHANNEL and SET_SPLIT -/

/-- Table 8-2: the settings after clamping. -/
def clampChannel (x : ChannelSettings) : ChannelSettings :=
  { x with responseTimeout := clamp 1 60 x.responseTimeout, probeInterval := clamp 1 60 x.probeInterval,
           tailReserve := min 3600 x.tailReserve }

/-- R134, R147: a channel under new settings, with the effect of the window override. -/
def applySettings (now : Nat) (window : WindowState) (y : ChannelSettings) (x : Channel) : Channel :=
  let x := { x with settings := y }
  if y.windowOverride then openChannel now x
  else match window with
    | .closed => closeChannel x
    | .open_ => x

/-- R134: what the turn of a SET_CHANNEL does, and its reply. -/
def doSetChannel (c : Nat) (x : ChannelSettings) (s : State) : State × Reply :=
  match four? c with
  | none => (s, .code .badArgument)
  | some c => (modifyChannel c (applySettings s.clock.now s.clock.window (clampChannel x)) s, .channelStored (clampChannel x))

/-- R134: the turn that takes a SET_CHANNEL. -/
def execSetChannel (tag c : Nat) (x : ChannelSettings) (s : State) : Result :=
  .next (managementTurn tag (.setChannel c x) (doSetChannel c x) s)

/-- Table 8-4: the number of staging slots of each channel under a split code. -/
def splitSlots (code : Nat) : Quad Nat :=
  match code with
  | 0 => ⟨8, 0, 0, 0⟩
  | 1 => ⟨4, 4, 0, 0⟩
  | 2 => ⟨4, 2, 2, 0⟩
  | _ => ⟨2, 2, 2, 2⟩

/-- Staging with `n` EMPTY slots. -/
def emptyStaging (n : Nat) : List StagingSlot := List.replicate n .empty

/-- R136: every channel's slots, EMPTY, under the division of a code. -/
def divideStaging (code : Nat) (q : Quad Channel) : Quad Channel :=
  ⟨{ q.a0 with staging := emptyStaging (splitSlots code).a0 }, { q.a1 with staging := emptyStaging (splitSlots code).a1 },
   { q.a2 with staging := emptyStaging (splitSlots code).a2 }, { q.a3 with staging := emptyStaging (splitSlots code).a3 }⟩

/-- R136, R178: whether every channel is IDLE and no pool read is in flight. -/
def channelsIdle (s : State) : Bool := four.all (fun c => (s.channels.get c).state = .idle) && s.dpu.inFlight.isEmpty

/-- R136: what the turn of a SET_SPLIT does, and its reply. R136 gives its refusals no order. DESIGN CHOICE, unsafe:
BAD_ARGUMENT comes before NOT_IDLE (notes/assumptions/50.md). -/
def doSetSplit (code : Nat) (s : State) : State × Reply :=
  if 3 < code then (s, .code .badArgument)
  else if channelsIdle s then ({ s with settings.split := code, channels := divideStaging code s.channels }, .stored code)
  else (s, .code .notIdle)

/-- R136: the turn that takes a SET_SPLIT. -/
def execSetSplit (tag code : Nat) (s : State) : Result := .next (managementTurn tag (.setSplit code) (doSetSplit code) s)

/-! ## RESUME, CLEAR and CANCEL_PASS -/

/-- R148: whether RESUME is accepted in a condition. -/
def resumable : Condition → Bool
  | .refused _ => true
  | .retryLimit => true
  | .integrity => true
  | .sourceFault => true
  | _ => false

/-- R148: the slots to be read again: every FAULTED one in order of slot number, and for INTEGRITY that of the pending
CARRY (notes/assumptions/23.md). -/
def rereadSlots (x : Channel) : List Nat :=
  (List.range x.staging.length).filter (fun k => match x.staging.getD k .empty with | .faulted .. => true | _ => false) ++
    match x.condition, x.queue with
    | .integrity, .carry _ _ k :: _ =>
      (match x.staging.getD k .empty with
        | .full .. => [k]
        | _ => [])
    | _, _ => []

/-- R137: a slot that is read again becomes FILLING with its extent and pass id. -/
def refill : StagingSlot → StagingSlot
  | .faulted e p => .filling e p
  | .full e p _ _ => .filling e p
  | k => k

/-- R138: the read of an assigned slot. -/
def slotRead (c : ChanId) (k : Nat) : StagingSlot → List PoolRead
  | .empty => []
  | .filling e p => [⟨c, k, e, p, false⟩]
  | .full e p _ _ => [⟨c, k, e, p, false⟩]
  | .faulted e p => [⟨c, k, e, p, false⟩]

/-- R148: a channel after a RESUME. -/
def resumeChannel (window : WindowState) (x : Channel) : Channel :=
  { x with
    failures := 0, condition := .none,
    staging := (rereadSlots x).foldl (fun l k => l.set k (refill (l.getD k .empty))) x.staging,
    state := if window = .closed ∧ x.settings.windowOverride = false then .suspended .streaming else .streaming }

/-- R148: the turn of an accepted RESUME. -/
def resume (c : ChanId) (s : State) : State :=
  let x := s.channels.get c
  let reads := (rereadSlots x).flatMap fun k => slotRead c k (x.staging.getD k .empty)
  modifyChannel c (resumeChannel s.clock.window) { s with dpu.readQueue := s.dpu.readQueue ++ reads }

/-- R148: what the turn of a RESUME does, and its reply. -/
def doResume (c : Nat) (s : State) : State × Reply :=
  match four? c with
  | none => (s, .code .badArgument)
  | some c =>
    if (s.channels.get c).state ≠ .stopped then (s, .code .notStopped)
    else if resumable (s.channels.get c).condition then (resume c s, .code .ok)
    else (s, .code .notResumable)

/-- R148: the turn that takes a RESUME. -/
def execResume (tag c : Nat) (s : State) : Result := .next (managementTurn tag (.resume c) (doResume c) s)

/-- R149, R150: a channel with an empty stream and every slot EMPTY. -/
def emptyChannel (x : Channel) : Channel := { x with queue := [], batch := [], staging := emptyStaging x.staging.length }

/-- R149, R150: the channel's queued reads leave the pool read queue. -/
def removeReads (c : ChanId) (s : State) : State :=
  { s with dpu.readQueue := s.dpu.readQueue.filter fun r => r.channel ≠ c }

/-- R149: drops the pin of a channel's pass on its target. -/
def dropPassPin (p : Option Pass) (s : State) : State :=
  match p with
  | some p => dropPin p.volume p.target s
  | none => s

/-- R149: the turn of an accepted CLEAR. -/
def clear (c : ChanId) (s : State) : State :=
  removeReads c (modifyChannel c (fun x => { emptyChannel (idleChannel x) with condition := .none })
    (dropPassPin (s.channels.get c).pass s))

/-- R149: what the turn of a CLEAR does, and its reply. -/
def doClear (c : Nat) (s : State) : State × Reply :=
  match four? c with
  | none => (s, .code .badArgument)
  | some c =>
    if (s.channels.get c).state ≠ .stopped then (s, .code .notStopped)
    else
      let p := (s.channels.get c).pass
      (clear c s, .cleared ((p.map (·.id)).getD 0) ((p.map (·.volume)).getD 0))

/-- R149: the turn that takes a CLEAR. -/
def execClear (tag c : Nat) (s : State) : Result := .next (managementTurn tag (.clear c) (doClear c) s)

/-- R150: the turn of an accepted CANCEL_PASS. -/
def cancelPass (c : ChanId) (s : State) : State := removeReads c (modifyChannel c emptyChannel (stopChannel c .cancelled s))

/-- R150: what the turn of a CANCEL_PASS does, and its reply. -/
def doCancelPass (c : Nat) (s : State) : State × Reply :=
  match four? c with
  | none => (s, .code .badArgument)
  | some c =>
    if (s.channels.get c).state = .idle then (s, .code .noPass)
    else (cancelPass c s, .cancelledPass (((s.channels.get c).pass.map (·.id)).getD 0))

/-- R150: the turn that takes a CANCEL_PASS. -/
def execCancelPass (tag c : Nat) (s : State) : Result := .next (managementTurn tag (.cancelPass c) (doCancelPass c) s)

/-! ## Sending -/

/-- R141: a test that the remaining window time is above 0; a channel with its override ON takes it as unlimited. -/
def windowLeft (s : State) (x : Channel) : Bool := x.settings.windowOverride || 0 < remainingWindow s

/-- R141: the test of the tail reserve. -/
def aboveReserve (s : State) (x : Channel) : Bool := x.settings.windowOverride || x.settings.tailReserve ≤ remainingWindow s

/-- R141: the condition on a pending frame of a STREAMING channel. -/
def itemExecutable (s : State) (x : Channel) : StreamItem → Bool
  | .carry _ _ k =>
    (match x.staging.getD k .empty with
      | .full .. => true
      | _ => false) && windowLeft s x && aboveReserve s x
  | _ => windowLeft s x

/-- R141: whether a PROBING channel's probe due time has come. -/
def probeIsDue (s : State) (x : Channel) : Bool :=
  match x.probeDue with
  | some t => t ≤ s.clock.now
  | none => false

/-- R141: whether a channel has an executable frame. -/
def executable (s : State) (c : ChanId) : Bool :=
  let x := s.channels.get c
  match x.state, x.pass with
  | .streaming, some _ =>
    match x.queue with
    | [] => false
    | i :: _ => x.outstanding.isNone && !x.suspendPending && itemExecutable s x i
  | .probing, some _ => x.outstanding.isNone && probeIsDue s x && windowLeft s x
  | _, _ => false

/-- Table 8-6: the frame for a stream item. -/
def itemFrame (p : Pass) (staging : List StagingSlot) : StreamItem → OffsiteFrame
  | .openPass => .openPass p.id p.seq p.volume p.base p.target p.mode
  | .carry x h k =>
    match staging.getD k .empty with
    | .full _ _ payload digest => .carry p.id p.seq x h digest payload
    | _ => .carry p.id p.seq x h 0#32 []
  | .drop xs => .drop p.id p.seq xs
  | .closePass n d => .closePass p.id p.seq n d

/-- R139, R146: the frame that a channel with an executable frame sends. -/
def nextFrame (x : Channel) (p : Pass) : OffsiteFrame :=
  match x.state, x.queue with
  | .streaming, i :: _ => itemFrame p x.staging i
  | _, _ => .probe p.id p.seq

/-- R142: the frame of channel `c` is transmitted. -/
def transmit (c : ChanId) (s : State) : State :=
  match (s.channels.get c).pass with
  | none => s
  | some p =>
    let o : Outstanding := ⟨(s.channels.get c).state = .probing, p.id, p.seq⟩
    let f := nextFrame (s.channels.get c) p
    emit (.frame c f)
      (modifyChannel c (fun x => { x with outstanding := some o })
        { s with dpu := { s.dpu with
          transmission := some ⟨c, o, (s.channels.get c).settings.responseTimeout⟩, lastSent := c } })

/-- R142: the channel that the link scheduler chooses. -/
def chooseChannel (s : State) : Option ChanId := (afterFour s.dpu.lastSent).find? (executable s)

/-- R142: the choice of the link scheduler while no frame is being transmitted. -/
def frameSend (s : State) : State :=
  match s.dpu.transmission, chooseChannel s with
  | none, some c => transmit c s
  | _, _ => s

/-- R142: the offsite link takes its next frame. -/
def execFrameSend (s : State) : Result := .next (event frameSend s)

/-- R142: the end of the transmission under way. The response timeout is the channel's at the sending of the frame: Table
8-2 has a new one act for each frame sent after the turn that sets it (notes/assumptions/33.md). -/
def transmissionEnd (s : State) : State :=
  match s.dpu.transmission with
  | none => s
  | some t =>
    let s := { s with dpu.transmission := none }
    if (s.channels.get t.channel).outstanding = some t.frame then
      modifyChannel t.channel (fun x => { x with deadline := some (deadlineAt s.clock.now t.timeout) }) s
    else s

/-- R142: a transmission ends. -/
def execTransmissionEnd (s : State) : Result := .next (event transmissionEnd s)

/-! ## Responses -/

/-- R139: whether a response to pass `p`, sequence `q` matches channel `c`; `probe` and `data` say which frames a
response of its kind answers. -/
def answersChannel (s : State) (p q : Nat) (probe data : Bool) (c : ChanId) : Bool :=
  match (s.channels.get c).outstanding with
  | some o => o.passId = p ∧ o.seq = q ∧ (if o.probe then probe else data)
  | none => false

/-- R139: the channel that a response matches, if any. -/
def responder (s : State) (p q : Nat) (probe data : Bool) : Option ChanId := four.find? (answersChannel s p q probe data)

/-- R139: the outstanding frame is answered or timed out. -/
def resolved (x : Channel) : Channel := { x with outstanding := none, deadline := none }

/-- R147: after the resolution of its frame, a suspend-pending channel that has not stopped suspends. -/
def settle (c : ChanId) (s : State) : State :=
  if (s.channels.get c).suspendPending then modifyChannel c suspend s else s

/-- R145: the probe due time `interval` from now, in PROBING. -/
def beginProbing (now : Nat) (x : Channel) : Channel :=
  { x with state := .probing, probeDue := some (deadlineAt now x.settings.probeInterval) }

/-- R143, R145: counts a failure. -/
def countFailure (x : Channel) : Channel :=
  { x with failures := x.failures + 1, stats := { x.stats with failures := satAdd x.stats.failures 1 } }

/-- R143: the digest that an accepted CARRY is compared with. -/
def heldDigest (x : Channel) : Option Digest :=
  match x.queue with
  | .carry _ _ k :: _ =>
    match x.staging.getD k .empty with
    | .full _ _ _ d => some d
    | _ => none
  | _ => none

/-- R143: an ACCEPT whose digest echo differs is an integrity failure. -/
def integrityFailure (c : ChanId) (s : State) : State :=
  let s := modifyChannel c (fun x => { x with stats := { x.stats with integrity := satAdd x.stats.integrity 1 } }) s
  if (s.channels.get c).settings.stopOnIntegrity then stopWithNotice c .integrity s
  else
    let s := modifyChannel c countFailure s
    if 3 ≤ (s.channels.get c).failures then stopWithNotice c .retryLimit s else s

/-- R124: a stall that waited for `w` ends. -/
def endStall (w : Stall) (p : Pass) : Pass := if p.stall = w then { p with stall := .none } else p

/-- R143: what the acceptance of a frame does by its kind. A pass whose stream has ended before its OPEN_PASS was
accepted stays in phase CLOSE (notes/assumptions/10.md). -/
def acceptKind (i : StreamItem) (x : Channel) : Channel :=
  match i with
  | .openPass => modifyPass (fun p => { p with phase := if p.phase = .open_ then .body else p.phase }) x
  | .carry _ _ k =>
    modifyPass (endStall .slot)
      { x with staging := x.staging.set k .empty, stats := { x.stats with carries := satAdd x.stats.carries 1 } }
  | .drop xs => modifyPass (endStall .flush) { x with stats := { x.stats with drops := satAdd x.stats.drops xs.length } }
  | .closePass _ _ => modifyPass (fun p => { p with closeAccepted := true }) x

/-- R143: an accepted frame leaves the stream queue and the sequence rises. -/
def acceptFrame (x : Channel) : Channel :=
  match x.queue with
  | [] => x
  | i :: q => acceptKind i { modifyPass (fun p => { p with seq := p.seq + 1 }) x with failures := 0, queue := q }

/-- R143: a matching ACCEPT at channel `c`. -/
def acceptAt (echo : Digest) (c : ChanId) (s : State) : State :=
  let s := modifyChannel c resolved s
  settle c
    (match heldDigest (s.channels.get c) with
      | some d => if d = echo then stopIfPendingFaulted c (modifyChannel c acceptFrame s) else integrityFailure c s
      | none => stopIfPendingFaulted c (modifyChannel c acceptFrame s))

/-- R139: a response that matches no channel is ignored. -/
def atResponder (c : Option ChanId) (f : ChanId → State → State) (s : State) : State :=
  match c with
  | some c => f c s
  | none => s

/-- R143, R180: an ACCEPT arrives; a discarded frame changes no state. -/
def execAccept (frame : List Byte) (s : State) : Result :=
  match readGatewayFrame frame with
  | .accept p q echo => .next (event (fun s => atResponder (responder s p q false true) (acceptAt echo) s) s)
  | _ => .next s.fresh

/-- R144: a matching DEFER at channel `c`. -/
def deferAt (c : ChanId) (s : State) : State :=
  settle c (modifyChannel c (fun x => beginProbing s.clock.now
    { resolved x with stats := { x.stats with defers := satAdd x.stats.defers 1 } }) s)

/-- R144, R180: a DEFER arrives. -/
def execDefer (frame : List Byte) (s : State) : Result :=
  match readGatewayFrame frame with
  | .defer p q => .next (event (fun s => atResponder (responder s p q true true) deferAt s) s)
  | _ => .next s.fresh

/-- R144, R180: a REFUSE arrives; a matching one stops its channel. -/
def execRefuse (frame : List Byte) (s : State) : Result :=
  match readGatewayFrame frame with
  | .refuse p q reason => .next (event (fun s =>
      atResponder (responder s p q true true) (fun c => stopWithNotice c (.refused reason)) s) s)
  | _ => .next s.fresh

/-- R146: a matching READY at channel `c`. -/
def readyAt (c : ChanId) (s : State) : State :=
  settle c (modifyChannel c (fun x => { resolved x with state := .streaming, probeDue := none }) s)

/-- R146, R180: a READY arrives. -/
def execReady (frame : List Byte) (s : State) : Result :=
  match readGatewayFrame frame with
  | .ready p q => .next (event (fun s => atResponder (responder s p q true false) readyAt s) s)
  | _ => .next s.fresh

/-- R183: a gateway frame of a part-side or unknown kind is discarded and changes no state. -/
def execUnknownOffsiteFrame (_ : List Byte) (s : State) : Result := .next s.fresh

/-! ## Timeouts and probes -/

/-- R145: whether the response deadline of a channel's outstanding frame has been reached. -/
def deadlineReached (s : State) (c : ChanId) : Bool :=
  match (s.channels.get c).outstanding, (s.channels.get c).deadline with
  | some _, some t => t ≤ s.clock.now
  | _, _ => false

/-- R145: the expiry at channel `c`. -/
def timeoutAt (c : ChanId) (s : State) : State :=
  let s := modifyChannel c (fun x => countFailure (resolved x)) s
  if 3 ≤ (s.channels.get c).failures then stopWithNotice c .retryLimit s
  else settle c (modifyChannel c (beginProbing s.clock.now) s)

/-- R145: the expiry of a response deadline. -/
def execResponseTimeout (c : ChanId) (s : State) : Result :=
  .next (event (fun s => if deadlineReached s c then timeoutAt c s else s) s)

/-- R146: the probe due time of a channel is reached. Executability is computed from the wall clock and the due time at
each choice of the scheduler (R141), so the moment itself changes no state (notes/assumptions/24.md). -/
def execProbeDue (_ : ChanId) (s : State) : Result := .next s.fresh

/-! ## Pool reads -/

/-- R138: the front of the read queue is issued while fewer than 16 reads are in flight. -/
def poolReadIssue (s : State) : State :=
  match s.dpu.readQueue with
  | [] => s
  | r :: q =>
    if s.dpu.inFlight.length < 16 then
      emit (.poolRead r) { s with dpu := { s.dpu with readQueue := q, inFlight := s.dpu.inFlight ++ [r] } }
    else s

/-- R138: a read is issued on the pool port. -/
def execPoolReadIssue (s : State) : Result := .next (event poolReadIssue s)

/-- R138: the effect of a completion on its slot. -/
def completeRead (r : PoolRead) (result : ReadResult) (s : State) : State :=
  match (s.channels.get r.channel).staging.getD r.slot .empty with
  | .filling e p =>
    if p = r.passId then
      match result with
      | .payload bytes =>
        modifyChannel r.channel (fun x => { x with staging := x.staging.set r.slot (.full e p bytes (crc32 bytes)) }) s
      | .fault =>
        if r.reread then
          stopIfPendingFaulted r.channel
            (modifyChannel r.channel (fun x => { x with staging := x.staging.set r.slot (.faulted e p) }) s)
        else { s with dpu.readQueue := ⟨r.channel, r.slot, e, p, true⟩ :: s.dpu.readQueue }
    else s
  | _ => s

/-- R138: the read in flight that a completion names. -/
def inFlightRead (s : State) (c : ChanId) (slot passId : Nat) : Option PoolRead :=
  s.dpu.inFlight.find? fun r => r.channel = c ∧ r.slot = slot ∧ r.passId = passId

/-- R138: a completion: the read leaves the reads in flight and the DPU acts on it. A completion of an abandoned read,
which is in flight no more, is ignored (R177). -/
def poolReadCompletion (c : ChanId) (slot passId : Nat) (result : ReadResult) (s : State) : State :=
  match inFlightRead s c slot passId with
  | none => s
  | some r => completeRead r result { s with dpu.inFlight := s.dpu.inFlight.erase r }

/-- R138: a read's completion arrives. -/
def execPoolReadCompletion (c : ChanId) (slot passId : Nat) (result : ReadResult) (s : State) : Result :=
  .next (event (poolReadCompletion c slot passId result) s)

end Sys2Proof.Machine
end

