-- ==== Sys2Proof/Machine/Reservations.lean ====
section
/-! DEFINITION. Chapter 3: RESERVE and the zone scan, COMMIT, RETURN, the lapse of a reservation, RELEASE and
SET_RESERVATION_HOLD. -/

namespace Sys2Proof.Machine

/-! ## Slots -/

/-- R42: a slot of a head. -/
def slotOf (s : State) (h : HeadId) (k : Nat) : Slot := (s.heads.get h).slots.getD k Slot.free0

def setSlot (h : HeadId) (k : Nat) (x : Slot) (s : State) : State :=
  modifyHead h (fun H => { H with slots := H.slots.set k x }) s

/-- R44, Table 3-2: the lookup of a named reservation: the reservation, or the code that answers the request. -/
def lookupSlot (s : State) (h : HeadId) (k generation : Nat) : Reservation ⊕ Code :=
  if 31 < k then .inr .unknownReservation
  else
    match (slotOf s h k).reservation with
    | none => .inr .unknownReservation
    | some r =>
      if (slotOf s h k).generation ≠ generation then .inr .unknownReservation
      else match r.state with
        | .open_ => .inl r
        | .lapsed => .inr .tooLate

/-- R42: the number of extents a reservation holds RESERVED while its slot is OPEN. -/
def remainder (r : Reservation) : Nat := r.granted - r.cursor

/-- R52, R53: the extents from the commit cursor onward, in run order. -/
def uncommitted (r : Reservation) : List Nat := (runExtents r.runs).drop r.cursor

/-- R53: the remainder of a reservation becomes FREE and pending falls by it. -/
def returnRemainder (r : Reservation) (s : State) : State :=
  changeFigures r.account (fun f => { f with pending := f.pending - remainder r })
    ((uncommitted r).foldl (fun s x => freeReserved x s) s)

/-! ## The zone scan -/

/-- R49: the runs collected, latest first; the count; whether the latest run is still open; whether the scan has
ended. -/
structure Scan where
  runs  : List Run
  count : Nat
  grown : Bool
  ended : Bool
  deriving DecidableEq, Repr

/-- R49: the open run ends; with the eighth run the scan ends. -/
def Scan.closeRun (c : Scan) : Scan :=
  if c.grown then { c with grown := false, ended := c.ended || 8 ≤ c.runs.length } else c

/-- R49: the scan reaches a FREE extent. -/
def Scan.take (g x : Nat) (c : Scan) : Scan :=
  let runs := match c.grown, c.runs with
    | true, r :: rs => { r with length := r.length + 1 } :: rs
    | _, rs => ⟨x, 1⟩ :: rs
  { runs := runs, count := c.count + 1, grown := c.count + 1 < g, ended := c.count + 1 = g }

/-- R49: examines `n` extents from index `x`, the part of a zone that ends there. -/
def scanPart (p : Pool) (g : Nat) : Nat → Nat → Scan → Scan
  | _, 0, c => c.closeRun
  | x, n + 1, c =>
    if c.ended then c
    else scanPart p g (x + 1) n (if (extentAt p x).isNone then c.take g x else c.closeRun)

/-- R48: a part of a zone that the scan may examine: its zone, first index and number of extents. -/
structure ScanPart where
  zone  : Nat
  first : Nat
  size  : Nat
  deriving DecidableEq, Repr

/-- R48: the parts in the order the scan comes to them, from a cursor in zone `c` at position `pos`. -/
def scanParts (p : Pool) (c pos : Nat) : List ScanPart :=
  [⟨c, pos, zoneEnd p c - pos⟩] ++
    ((List.range 63).map fun i => let z := (c + 1 + i) % 64; ⟨z, zoneFirst p z, zoneCovers p z⟩) ++
    [⟨c, zoneFirst p c, pos - zoneFirst p c⟩]

/-- R48: a part is examined only while the free count of its zone is above 0. -/
def scanZone (p : Pool) (g : Nat) (c : Scan) (part : ScanPart) : Scan :=
  if c.ended || p.zoneFree.getD part.zone 0 = 0 then c else scanPart p g part.first part.size c

/-- R48, R49: the zone scan for `g` extents. -/
def zoneScan (p : Pool) (zone pos g : Nat) : Scan :=
  (scanParts p zone pos).foldl (scanZone p g) ⟨[], 0, false, false⟩

/-! ## RESERVE -/

/-- R46, Table 3-3: the checks of a RESERVE before admission. -/
def reserveCheck (s : State) (h : HeadId) (account volume want : Nat) : Option Code :=
  if want = 0 then some .badArgument
  else match account? s account with
    | none => some .noAccount
    | some a =>
      match a.body with
      | .group _ => some .notPerson
      | .person _ =>
        if (volume? s volume).isNone then some .noVolume
        else if (List.range 32).all (fun k => ((slotOf s h k).reservation.map (·.state)) = some .open_) then some .slotsFull
        else none

/-- R51: the slot a grant takes: the lowest FREE one, else the lowest LAPSED one. -/
def grantSlot (s : State) (h : HeadId) : Nat :=
  match (List.range 32).find? fun k => (slotOf s h k).reservation.isNone with
  | some k => k
  | none => ((List.range 32).find? fun k => ((slotOf s h k).reservation.map (·.state)) = some .lapsed).getD 0

/-- R51: the grant of the runs to head `h`. -/
def grantRuns (h : HeadId) (account volume want : Nat) (runs : List Run) (count : Nat) (s : State) : State :=
  let k := grantSlot s h
  let g := ((slotOf s h k).generation + 1) % 256
  let s := setSlot h k ⟨g, some ⟨.open_, account, volume, runs, count, 0, deadlineAt s.clock.now s.settings.reservationHold⟩⟩ s
  let s := (runExtents runs).foldl (fun s x => leaveFree x (.reserved volume account h.val k g) s) s
  let s := changeFigures account (fun f => { f with pending := f.pending + count }) s
  let last := ((runs.getLast?).map fun r => r.first + r.length - 1).getD 0
  let s := modifyHead h (fun H => { H with zone := zoneOf s.pool last, position := last + 1 }) s
  changeStats account (fun t => { t with
    grants := satAdd t.grants 1, shortGrants := if count < want then satAdd t.shortGrants 1 else t.shortGrants }) s

/-- R29, R50: counts a RESERVE refused OWN_LIMIT, GROUP_LIMIT, POOL_LIMIT or FRAGMENTED. -/
def countRefusal (account : Nat) (s : State) : State :=
  changeStats account (fun t => { t with refusals := satAdd t.refusals 1 }) s

/-- R45 to R51: a RESERVE whose want and minimum are clamped and whose checks have passed. -/
def admitReserve (h : HeadId) (account volume want minimum : Nat) (a : Account) (p : Person) (s : State) : State × Reply :=
  let own := ownHeadroom a p
  let group := groupHeadroom s p
  let pool := some (poolHeadroom s p)
  let headroom := headroomOf own group pool
  if headroom < minimum then
    (countRefusal account s, .reserve (limitingTerm own group pool) none 0 headroom none [])
  else
    let c := zoneScan s.pool (s.heads.get h).zone (s.heads.get h).position (min want headroom)
    let runs := c.runs.reverse
    if c.count < minimum then (countRefusal account s, .reserve .fragmented none c.count headroom none [])
    else
      let t := grantRuns h account volume want runs c.count s
      let k := grantSlot s h
      (t, .reserve .ok (some (k, (slotOf t h k).generation)) c.count headroom
        (some (deadlineAt s.clock.now s.settings.reservationHold)) runs)

/-- R45: the want after clamping. -/
def clampWant (want : Nat) : Nat := min want 256
/-- R45: the minimum after clamping, for a clamped want. -/
def clampMinimum (want minimum : Nat) : Nat := min (clampWant want) (max 1 minimum)

/-- R45 to R51: what the turn of a RESERVE does, and its reply. -/
def doReserve (h : HeadId) (account volume want minimum : Nat) (s : State) : State × Reply :=
  match reserveCheck s h account volume want with
  | some c => (s, .reserve c none 0 0 none [])
  | none =>
    match account? s account with
    | some a =>
      match a.body with
      | .person p => admitReserve h account volume (clampWant want) (clampMinimum want minimum) a p s
      | .group _ => (s, .reserve .notPerson none 0 0 none [])
    | none => (s, .reserve .noAccount none 0 0 none [])

/-- The turn that takes a RESERVE. -/
def execReserve (h : HeadId) (tag account volume want minimum : Nat) (s : State) : Result :=
  .next (requestTurn (.head h) tag (.reserve account volume want minimum) (fun i t =>
    answer 0x10 (.head h) i tag (doReserve h account volume want minimum t).2 (doReserve h account volume want minimum t).1) s)

/-! ## COMMIT -/

/-- R52: a RESERVED extent becomes LIVE in epoch `e`; an extent in another state is not changed (R2). -/
def commitExtent (e : Nat) (s : State) (x : Nat) : State :=
  match extentAt s.pool x with
  | some (.reserved v o _ _ _) => setExtent x (.live v o e e) s
  | _ => s

/-- R52: the commit of the next `k` extents of the reservation `r` in slot `slot`. -/
def commitExtents (h : HeadId) (slot k : Nat) (r : Reservation) (s : State) : State :=
  let e := openEpoch s r.volume
  let xs := (uncommitted r).take k
  let generation := (slotOf s h slot).generation
  let s := xs.foldl (commitExtent e) s
  let s := changeFigures r.account (fun f => { f with pending := f.pending - k, used := f.used + k }) s
  let s := appendChanges (xs.map fun x => some ⟨.birth, r.volume, x, e, none⟩) s
  let s := setSlot h slot
    (if r.cursor + k = r.granted then ⟨generation, none⟩ else ⟨generation, some { r with cursor := r.cursor + k }⟩) s
  reevaluate r.account s

/-- R52: what the turn of a COMMIT does, and its reply. -/
def doCommit (h : HeadId) (slot generation count : Nat) (s : State) : State × Reply :=
  if count = 0 then (s, .code .badArgument)
  else match lookupSlot s h slot generation with
    | .inr c => (s, .code c)
    | .inl r =>
      let k := min count (remainder r)
      (commitExtents h slot k r s, .committed k (remainder r - k))

/-- The turn that takes a COMMIT. -/
def execCommit (h : HeadId) (tag slot generation count : Nat) (s : State) : Result :=
  .next (requestTurn (.head h) tag (.commit slot generation count) (fun i t =>
    answer 0x11 (.head h) i tag (doCommit h slot generation count t).2 (doCommit h slot generation count t).1) s)

/-! ## RETURN and the lapse -/

/-- R53: what the turn of a RETURN does, and its reply. -/
def doReturn (h : HeadId) (slot generation : Nat) (s : State) : State × Reply :=
  match lookupSlot s h slot generation with
  | .inr c => (s, .code c)
  | .inl r => (setSlot h slot ⟨generation, none⟩ (returnRemainder r s), .returned (remainder r))

/-- The turn that takes a RETURN. -/
def execReturnSlot (h : HeadId) (tag slot generation : Nat) (s : State) : Result :=
  .next (requestTurn (.head h) tag (.returnSlot slot generation) (fun i t =>
    answer 0x12 (.head h) i tag (doReturn h slot generation t).2 (doReturn h slot generation t).1) s)

/-- R54: a reservation has expired, and the clock unit presents its due work. Without an expired OPEN slot, and outside
normal operation, nothing happens. -/
def execReservationDeadlineExpiry (s : State) : Result :=
  .next (if s.part = .running ∧ (dueLapse s).isSome then
      presentClock (fun w => match w with | .lapse .. => true | _ => false) s.fresh
    else s.fresh)

/-- R55: the turn of a lapse at the slot named. -/
def lapseSlot (h : HeadId) (k generation : Nat) (s : State) : State :=
  match (slotOf s h k).reservation with
  | some r =>
    if r.state = .open_ ∧ (slotOf s h k).generation = generation ∧ r.deadline ≤ s.clock.now then
      placeHead h (.reservationLapsed k generation r.account r.cursor (remainder r))
        (setSlot h k ⟨generation, some { r with state := .lapsed }⟩ (returnRemainder r s))
    else s
  | none => s

/-- The reservation that agent CK waits with, if it waits with a lapse. -/
def waitingLapse (s : State) : Option (HeadId × Nat × Nat) :=
  match look s.arb.waiting agentCK with
  | some ⟨_, _, .ck (.lapse h k g)⟩ => some (h, k, g)
  | _ => none

/-- R55: the CK turn of a reservation lapse. -/
def execReservationLapse (s : State) : Result :=
  .next (match waitingLapse s with
    | some (h, k, g) => clockTurn true (lapseSlot h k g) s
    | none => s.fresh)

/-! ## RELEASE -/

/-- R58, Table 3-9: the checks of a RELEASE. -/
def releaseCheck (s : State) (account volume : Nat) (extents : List Nat) : Option Code :=
  if extents.length = 0 ∨ 64 < extents.length then some .badArgument
  else match account? s account with
    | none => some .noAccount
    | some a =>
      match a.body with
      | .group _ => some .notPerson
      | .person _ => if (volume? s volume).isNone then some .noVolume else none

/-- R59 to R61: a release in progress: the state, the changes for the journal, the counts and the marks, and the place
of the next extent. -/
structure Release where
  state    : State
  changes  : List (Option LifeChange)
  retained : Nat
  freed    : Nat
  mismatch : BitVec 64
  place    : Nat

/-- R60: whether a good extent born in epoch `b` is retained: the newest LIVE snapshot is at or above it. -/
def retains (V : Volume) (b : Nat) : Bool :=
  match newestLive V with
  | some p => b ≤ p.epoch
  | none => false

/-- R61: a good extent is retained at the chain's tail. -/
def retainExtent (v x owner birth ship death : Nat) (s : State) : State :=
  changeFigures owner (fun f => { f with used := f.used - 1, retained := f.retained + 1 })
    (appendChain v x owner birth ship death s)

/-- R61: a good extent is freed. -/
def freeReleased (v x owner : Nat) (s : State) : State :=
  changeFigures owner (fun f => { f with used := f.used - 1 }) (enterFree x v s)

/-- R59: one extent of a release. -/
def releaseExtent (account volume : Nat) (r : Release) (x : Nat) : Release :=
  match extentAt r.state.pool x, volume? r.state volume with
  | some (.live v o b h), some V =>
    if v = volume ∧ o = account then
      let change := some ⟨.death, volume, x, V.openEpoch, some h⟩
      if retains V b then
        { r with state := retainExtent volume x account b h V.openEpoch r.state, changes := r.changes ++ [change],
                 retained := r.retained + 1, place := r.place + 1 }
      else
        { r with state := freeReleased volume x account r.state, changes := r.changes ++ [change],
                 freed := r.freed + 1, place := r.place + 1 }
    else { r with changes := r.changes ++ [none], mismatch := r.mismatch ||| (1#64 <<< r.place), place := r.place + 1 }
  | _, _ => { r with changes := r.changes ++ [none], mismatch := r.mismatch ||| (1#64 <<< r.place), place := r.place + 1 }

/-- R59 to R62: the extents of a release, the journal entries, and the end of its turn. -/
def releaseAll (account volume : Nat) (extents : List Nat) (s : State) : State × Reply :=
  let r := extents.foldl (releaseExtent account volume) ⟨s, [], 0, 0, 0#64, 0⟩
  let good := r.retained + r.freed
  (if good = 0 then r.state
   else reevaluate account (changeStats account (fun t => { t with releases := satAdd t.releases good })
      (appendChanges r.changes r.state)),
   .released good r.retained r.freed r.mismatch)

/-- R58 to R62: what the turn of a RELEASE does, and its reply. -/
def doRelease (account volume : Nat) (extents : List Nat) (s : State) : State × Reply :=
  match releaseCheck s account volume extents with
  | some c => (s, .code c)
  | none => releaseAll account volume extents s

/-- The turn that takes a RELEASE. -/
def execRelease (h : HeadId) (tag account volume : Nat) (extents : List Nat) (s : State) : Result :=
  .next (requestTurn (.head h) tag (.release account volume extents) (fun i t =>
    answer 0x13 (.head h) i tag (doRelease account volume extents t).2 (doRelease account volume extents t).1) s)

/-! ## SET_RESERVATION_HOLD -/

/-- R43: the turn that takes a SET_RESERVATION_HOLD. -/
def execSetReservationHold (tag seconds : Nat) (s : State) : Result :=
  .next (managementTurn tag (.setReservationHold seconds) (fun t =>
    ({ t with settings.reservationHold := clamp 10 3600 seconds }, .stored (clamp 10 3600 seconds))) s)

end Sys2Proof.Machine
end

