-- ==== Sys2Proof/Machine/Heads.lean ====
section
/-! DEFINITION. Chapter 9: the frames of the head links, the detect timer, loss and loss cleanup, notices, and
SET_HEADS. -/

namespace Sys2Proof.Machine

/-! ## The link -/

/-- Table 9-3: the detect period of a code, in half seconds. -/
def detectPeriod (code : Nat) : Nat := 2 ^ code

/-- R152, R155: a good frame restarts the detect timer of an UP head. -/
def restartTimer (h : HeadId) (s : State) : State :=
  modifyHead h (fun H => if H.link = .up then { H with detect := some (detectPeriod H.detectCode) } else H) s

/-- R158: the head's own part of a loss. A pending cleanup keeps its first cause, and with it the incarnation that was
lost first (notes/assumptions/12.md). -/
def loseHead (cause : Cause) (H : Head) : Head :=
  { H with requests := [], tags := [], notices := [], missed := false,
           cleanup := some (H.cleanup.getD ⟨cause, H.incarnation⟩) }

/-- R158: a loss begins at head `h`: a presentation is kept with its age and becomes UPDATE. -/
def beginLoss (h : HeadId) (cause : Cause) (s : State) : State :=
  { modifyHead h (loseHead cause) s with
    arb := { s.arb with waiting := adjust (fun w => { w with cls := .update }) s.arb.waiting h.val } }

/-- The link goes to a state in which the detect timer is stopped. -/
def stopLink (h : HeadId) (l : LinkState) (s : State) : State := modifyHead h (fun H => { H with link := l, detect := none }) s

/-- What a head link unit sends at the arrival of a frame of a kind. R156, R179 and R180 do not say which incarnation the
envelope of a STALE refusal carries, the frame's or the head's present one. DESIGN CHOICE, unsafe: the callers pass the
frame's, as the reply of every request that is taken carries it (notes/assumptions/48.md). -/
def replyAtOnce (h : HeadId) (incarnation tag kind : Nat) (r : Reply) (s : State) : State :=
  emit (.reply (.head h) incarnation tag kind r) s

/-! ## JOIN, LEAVE and KEEP -/

/-- R153: a link that is raised. -/
def raiseHead (H : Head) : Head :=
  { H with link := .up, incarnation := (H.incarnation + 1) % 65536, detect := some (detectPeriod H.detectCode) }

/-- R153: the link is raised and the JOIN is answered with the new incarnation and the detect period. The manual has the
reply of a request carry its tag, and names no tag for the reply of a JOIN, LEAVE or NOTICE_READ. DESIGN CHOICE, unsafe:
these replies echo the tag field of their frame (notes/assumptions/49.md). -/
def raiseLink (h : HeadId) (tag : Nat) (s : State) : State :=
  let s := modifyHead h raiseHead s
  replyAtOnce h 0 tag 0x01 (.join (s.heads.get h).incarnation (detectPeriod (s.heads.get h).detectCode)) s

/-- R153: a JOIN while the part runs. -/
def joinHead (h : HeadId) (tag : Nat) (s : State) : State :=
  if (s.heads.get h).barred then replyAtOnce h 0 tag 0x01 (.code .barred) (restartTimer h s)
  else raiseLink h tag (if (s.heads.get h).link = .up then beginLoss h .rejoin s else s)

/-- R153: a JOIN arrives; during a start scan it is refused NOT_READY. -/
def execJoin (h : HeadId) (frame : List Byte) (s : State) : Result :=
  .next (match s.part, readHeadFrame frame with
    | .starting _, .join tag => replyAtOnce h 0 tag 0x01 (.code .notReady) s.fresh
    | .running, .join tag => event (joinHead h tag) s
    | .running, .timerOnly _ => event (restartTimer h) s
    | _, _ => s.fresh)

/-- R154: a LEAVE in UP. -/
def leaveHead (h : HeadId) (incarnation tag : Nat) (s : State) : State :=
  if incarnation = (s.heads.get h).incarnation then
    stopLink h .down (beginLoss h .leave (replyAtOnce h incarnation tag 0x02 (.code .ok) s))
  else replyAtOnce h incarnation tag 0x02 (.code .stale) (restartTimer h s)

/-- Table 9-2: a frame that is handled in UP only. -/
def inUp (h : HeadId) (f : State → State) (s : State) : State := if (s.heads.get h).link = .up then f s else s

/-- R154: a LEAVE arrives. -/
def execLeave (h : HeadId) (frame : List Byte) (s : State) : Result :=
  .next (match readHeadFrame frame with
    | .leave i tag => event (inUp h (leaveHead h i tag)) s
    | .timerOnly _ => event (restartTimer h) s
    | _ => s.fresh)

/-- R154: a KEEP arrives. -/
def execKeep (h : HeadId) (frame : List Byte) (s : State) : Result :=
  .next (match readHeadFrame frame with
    | .keep => event (restartTimer h) s
    | .timerOnly _ => event (restartTimer h) s
    | _ => s.fresh)

/-! ## NOTICE_READ -/

/-- R160: the number of notices that a count asks for. -/
def noticeCount (count : Nat) : Nat := clamp 1 8 count

/-- R160: a NOTICE_READ at an UP head. -/
def readHeadNotices (h : HeadId) (incarnation tag count : Nat) (s : State) : State :=
  let H := s.heads.get h
  if incarnation = H.incarnation then
    replyAtOnce h incarnation tag 0x04 (.notices H.missed (H.notices.take (noticeCount count)))
      (modifyHead h (fun H => { H with notices := H.notices.drop (noticeCount count), missed := false }) (restartTimer h s))
  else replyAtOnce h incarnation tag 0x04 (.code .stale) (restartTimer h s)

/-- R160, R171: a NOTICE_READ of the management processor. -/
def readMgmtNotices (tag count : Nat) (s : State) : State :=
  emit (.reply .mgmt 0 tag 0x04 (.notices s.mlu.missed (s.mlu.notices.take (noticeCount count))))
    { s with mlu := { s.mlu with notices := s.mlu.notices.drop (noticeCount count), missed := false } }

/-- R160: a NOTICE_READ arrives on a head link. -/
def headNoticeRead (h : HeadId) (frame : List Byte) (s : State) : State :=
  match readHeadFrame frame with
  | .noticeRead i tag count => event (inUp h (readHeadNotices h i tag count)) s
  | .timerOnly _ => event (restartTimer h) s
  | _ => s.fresh

/-- R171: a NOTICE_READ arrives on the management link; during a start scan it is refused NOT_READY. -/
def mgmtNoticeRead (frame : List Byte) (s : State) : State :=
  match s.part, readManagementBytes frame with
  | .starting _, .noticeRead tag _ => emit (.reply .mgmt 0 tag 0x04 (.code .notReady)) s.fresh
  | .running, .noticeRead tag count => event (readMgmtNotices tag count) s
  | _, _ => s.fresh

/-- R160: a NOTICE_READ arrives. -/
def execNoticeRead (link : Link) (frame : List Byte) (s : State) : Result :=
  .next (match link with
    | .head h => headNoticeRead h frame s
    | .mgmt => mgmtNoticeRead frame s)

/-! ## Requests -/

/-- Table 9-4: the checks of a request at its arrival. -/
def arrivalCheck (H : Head) (incarnation tag : Nat) (r : Option Request) : Option Code :=
  if incarnation ≠ H.incarnation then some .stale
  else if tag ∈ H.tags then some .tagInUse
  else if 16 ≤ H.requests.length then some .busy
  else if r.isNone then some .badArgument
  else none

/-- R156: a request joins the end of the queue and its tag is in use. -/
def enqueue (incarnation tag : Nat) (r : Request) (H : Head) : Head :=
  { H with requests := H.requests ++ [⟨incarnation, tag, r⟩], tags := H.tags ++ [tag] }

/-- R156: a request at an UP head. -/
def takeRequest (h : HeadId) (kind incarnation tag : Nat) (r : Option Request) (s : State) : State :=
  let s := restartTimer h s
  match arrivalCheck (s.heads.get h) incarnation tag r, r with
  | some c, _ => replyAtOnce h incarnation tag kind (.code c) s
  | none, some r => modifyHead h (enqueue incarnation tag r) s
  | none, none => s

/-- R156: a request arrives on a head link. -/
def execHeadRequestArrival (h : HeadId) (frame : List Byte) (s : State) : Result :=
  .next (match readHeadFrame frame with
    | .request kind i tag r => event (inUp h (takeRequest h kind i tag r)) s
    | .timerOnly _ => event (restartTimer h) s
    | _ => s.fresh)

/-! ## Loss -/

/-- R155: the detect timer of an UP head expires. -/
def execDetectExpiry (h : HeadId) (s : State) : Result :=
  .next (event (fun s =>
    if (s.heads.get h).link = .up ∧ (s.heads.get h).detect.isSome then stopLink h .lost (beginLoss h .detect s) else s) s)

/-- R57: a loss cleanup's return of the slots so far: the state, and the reservations and extents returned. -/
structure Returned where
  state        : State
  reservations : Nat
  extents      : Nat

/-- R57: returns one slot, when it is OPEN. -/
def returnOpen (h : HeadId) (r : Returned) (k : Nat) : Returned :=
  match (slotOf r.state h k).reservation with
  | some x =>
    if x.state = .open_ then
      ⟨setSlot h k ⟨(slotOf r.state h k).generation, none⟩ (returnRemainder x r.state), r.reservations + 1,
        r.extents + remainder x⟩
    else r
  | none => r

/-- R75: whether a waiter is of head `h`. -/
def waitsFor (h : HeadId) : Waiter → Bool
  | .head g _ _ => g = h
  | _ => false

/-- R109: whether a context was submitted by head `h`. -/
def submittedBy (h : HeadId) (c : Context) : Bool :=
  match c.submitter with
  | .head g _ => g = h
  | .mgmt => false

/-- R75: removes the waiters of a head from the seal queue. -/
def removeWaiters (h : HeadId) (s : State) : State :=
  { s with epu.sealQueue := s.epu.sealQueue.map fun e => { e with waiters := e.waiters.filter fun w => !waitsFor h w } }

/-- R109: sets the cancel flag of the contexts of a head. -/
def flagContexts (h : HeadId) (s : State) : State :=
  { s with rsq.contexts := s.rsq.contexts.map fun c => if submittedBy h c then { c with cancel := true } else c }

/-- R159: what the turn of a loss cleanup does. R159 does not say whether a context whose cancel flag was SET already is
among those flagged. DESIGN CHOICE, unsafe: HEAD_DOWN counts every context that the head submitted
(notes/assumptions/44.md). -/
def lossCleanup (h : HeadId) (s : State) : State :=
  match (s.heads.get h).cleanup with
  | none => s
  | some l =>
    let r := (List.range 32).foldl (returnOpen h) ⟨s, 0, 0⟩
    let waiters := (s.epu.sealQueue.map fun e => (e.waiters.filter (waitsFor h)).length).sum
    let contexts := (s.rsq.contexts.filter (submittedBy h)).length
    modifyHead h (fun H => { H with cleanup := none })
      (placeMl (.headDown h l.cause l.incarnation r.reservations r.extents waiters contexts)
        (flagContexts h (removeWaiters h r.state)))

/-- R159: the turn of a head's agent that makes a loss cleanup. -/
def execLossCleanup (h : HeadId) (s : State) : Result :=
  .next (turn h.val (s.heads.get h).cleanup.isSome (lossCleanup h) s)

/-! ## SET_HEADS -/

/-- R161: whether a SET_HEADS is refused. -/
def headsRefused (s : State) (r : HeadsRequest) : Bool :=
  r.mask = 0#4 || (match r.zoneStart with
    | some z => 63 < z || zoneCovers s.pool z = 0
    | none => false)

/-- R161: a head under new settings. -/
def storeHead (p : Pool) (r : HeadsRequest) (H : Head) : Head :=
  let code := min r.detectCode 7
  let H := { H with
    detect := if H.link = .up ∧ H.detectCode ≠ code then some (detectPeriod code) else H.detect
    detectCode := code, barred := r.barred, selectAccount := r.selectAccount, selectSealed := r.selectSealed }
  match r.zoneStart with
  | some z => { H with zone := z, position := zoneFirst p z }
  | none => H

/-- R161: what barring does to a head's link. -/
def barHead (h : HeadId) (s : State) : State :=
  match (s.heads.get h).link with
  | .up => stopLink h .down (beginLoss h .leave s)
  | .lost => stopLink h .down s
  | .down => s

/-- R161: a SET_HEADS at one head. -/
def setHead (r : HeadsRequest) (s : State) (h : HeadId) : State :=
  if r.mask.getLsbD h.val then
    let s := modifyHead h (storeHead s.pool r) s
    if r.barred then barHead h s else s
  else s

/-- R161: what the turn of a SET_HEADS does, and its reply. -/
def doSetHeads (r : HeadsRequest) (s : State) : State × Reply :=
  if headsRefused s r then (s, .code .badArgument)
  else
    (four.foldl (setHead r) s,
      .headsStored ⟨r.mask, min r.detectCode 7, r.barred, r.selectAccount, r.selectSealed, r.zoneStart⟩)

/-- R161: the turn that takes a SET_HEADS. -/
def execSetHeads (tag : Nat) (r : HeadsRequest) (s : State) : Result :=
  .next (managementTurn tag (.setHeads r) (doSetHeads r) s)

end Sys2Proof.Machine
end

