-- ==== Sys2Proof/Machine/Restores.lean ====
section
/-! DEFINITION. Chapter 6: RESTORE, the restore step with its stages and its cancellation, and CANCEL_RESTORE. -/

namespace Sys2Proof.Machine

/-! ## Submitting a restore -/

/-- R96, R181: the mode that a mode byte names. -/
def restoreMode (b : ModeByte) : Option RestoreMode :=
  match b with
  | 0 => some .allOrNone
  | 1 => some .asFits
  | _ => none

/-- R96: the code when a number is not that of a person. -/
def personCheck (s : State) (n : Nat) : Option Code :=
  match account? s n with
  | none => some .noAccount
  | some a =>
    match a.body with
    | .group _ => some .notPerson
    | .person _ => none

/-- R96, Table 6-1: the checks of a RESTORE. -/
def restoreCheck (s : State) (r : RestoreRequest) : Option Code :=
  if r.extents.length = 0 ∨ 256 < r.extents.length ∨ (restoreMode r.mode).isNone then some .badArgument
  else match personCheck s r.target with
    | some c => some c
    | none =>
      match r.source.bind (personCheck s) with
      | some c => some c
      | none =>
        match volume? s r.volume with
        | none => some .noVolume
        | some V =>
          if ((findSnapshot V r.epoch).map (·.state)) ≠ some .live then some .notLive
          else if 16 ≤ s.rsq.contexts.length then some .contextsFull
          else none

/-- R97: the lowest context number not in use. -/
def freeContext (s : State) : Nat :=
  ((List.range 16).find? fun i => s.rsq.contexts.all fun c => c.id ≠ i).getD 0

/-- R97: the submitter that a link and incarnation name. -/
def submitterOf (link : Link) (incarnation : Nat) : Submitter :=
  match link with
  | .head h => .head h incarnation
  | .mgmt => .mgmt

/-- R97, Table 6-2: a context at its acceptance. -/
def newContext (s : State) (link : Link) (incarnation tag : Nat) (r : RestoreRequest) : Context where
  id := freeContext s
  submitter := submitterOf link incarnation
  tag := tag
  target := r.target
  source := r.source
  volume := r.volume
  epoch := r.epoch
  mode := (restoreMode r.mode).getD .allOrNone
  places := r.extents.map fun x => ⟨x, .unclassified⟩
  stage := .verify
  cursor := 0
  admitted := 0
  hold := 0
  charge := none
  cancel := false

/-- R97: accepts a RESTORE. -/
def acceptRestore (link : Link) (incarnation tag : Nat) (r : RestoreRequest) (s : State) : State :=
  takePin r.volume r.epoch { s with rsq.contexts := s.rsq.contexts ++ [newContext s link incarnation tag r] }

/-- R96, R97: the turn that takes a RESTORE. An accepted RESTORE is not answered at its turn. -/
def execRestore (link : Link) (tag : Nat) (r : RestoreRequest) (s : State) : Result :=
  .next (requestTurn link tag (.restore r) (fun i t =>
    match restoreCheck t r with
    | some c => answer 0x15 link i tag (.code c) t
    | none => acceptRestore link i tag r t) s)

/-! ## Contexts -/

/-- Stores a context that stays in the list. -/
def storeContext (c : Context) (s : State) : State :=
  { s with rsq.contexts := s.rsq.contexts.map fun d => if d.id = c.id then c else d }

/-- R107: the reply of an ended context. -/
def restoreReply (c : Context) (outcome : Code) : Reply := .restore ⟨c.id, outcome, c.charge, c.admitted, c.places⟩

/-- R107: sends the reply of an ended context to its submitter. -/
def answerRestore (c : Context) (outcome : Code) (s : State) : State :=
  match c.submitter with
  | .head h i => answer 0x15 (.head h) i c.tag (restoreReply c outcome) s
  | .mgmt => answer 0x15 .mgmt 0 c.tag (restoreReply c outcome) s

/-- R106, R107: a context ends: its pin is dropped, it leaves the list and its reply is sent. -/
def endContext (c : Context) (outcome : Code) (s : State) : State :=
  answerRestore c outcome
    (dropPin c.volume c.epoch { s with rsq.contexts := s.rsq.contexts.filter fun d => d.id ≠ c.id })

/-- R21: the target's restore hold falls by `k`. -/
def releaseHold (target k : Nat) (s : State) : State := changeFigures target (fun f => { f with hold := f.hold - k }) s

/-! ## VERIFY -/

/-- R99, Table 6-4: the class of a place. -/
def classify (s : State) (c : Context) (x : Nat) : Mark :=
  match extentAt s.pool x with
  | some (.live v o b _) => if v = c.volume ∧ b ≤ c.epoch then if o = c.target then .heldLive else .inUse else .notHeld
  | some (.retained v o b _ d _ _) =>
    if v = c.volume ∧ b ≤ c.epoch ∧ c.epoch < d ∧ (c.source = none ∨ c.source = some o) then .heldRetained else .notHeld
  | _ => .notHeld

/-- R99: the places after a VERIFY step from the cursor. -/
def verifyPlaces (s : State) (c : Context) : List Place :=
  c.places.take c.cursor ++ ((c.places.drop c.cursor).take 64).map (fun p => ⟨p.extent, classify s c p.extent⟩) ++
    c.places.drop (c.cursor + 64)

/-- R99: a VERIFY step. -/
def verifyStep (c : Context) (s : State) : State :=
  let cursor := min (c.cursor + 64) c.places.length
  storeContext { c with places := verifyPlaces s c, cursor := cursor,
                        stage := if cursor = c.places.length then .charge else .verify } s

/-! ## CHARGE -/

/-- R101, R102: keeps the first `k` HELD_RETAINED marks and makes the later ones OVER_QUOTA. -/
def keepFirst : Nat → List Place → List Place
  | _, [] => []
  | 0, p :: ps => (if p.mark = .heldRetained then { p with mark := .overQuota } else p) :: keepFirst 0 ps
  | k + 1, p :: ps => p :: keepFirst (if p.mark = .heldRetained then k else k + 1) ps

/-- R30: the headroom of a charge of the target and its limiting term. -/
def chargeTerms (s : State) (target : Nat) : Nat × Code :=
  match account? s target with
  | some a =>
    match a.body with
    | .person p =>
      (headroomOf (ownHeadroom a p) (groupHeadroom s p) none, limitingTerm (ownHeadroom a p) (groupHeadroom s p) none)
    | .group _ => (0, .ownLimit)
  | none => (0, .ownLimit)

/-- R101, R102: the admitted count of a charge, or none for a refused context. -/
def admittedCount (mode : RestoreMode) (r headroom : Nat) : Option Nat :=
  match mode with
  | .allOrNone => if headroom < r then none else some r
  | .asFits => some (min r headroom)

/-- R103: an admitted count above 0 takes restore hold. -/
def takeHold (c : Context) (a : Nat) (s : State) : State :=
  storeContext { c with admitted := a, hold := a, cursor := 0, stage := .relink }
    (changeFigures c.target (fun f => { f with hold := f.hold + a }) s)

/-- R101 to R103: a CHARGE step. -/
def chargeStep (c : Context) (s : State) : State :=
  let r := countMark .heldRetained c.places
  let (headroom, limiting) := chargeTerms s c.target
  let result : ChargeResult := ⟨headroom, if headroom < r then some limiting else none⟩
  match admittedCount c.mode r headroom with
  | none => endContext { c with places := keepFirst 0 c.places, charge := some result } limiting s
  | some a =>
    let c := { c with places := keepFirst a c.places, charge := some result }
    if a = 0 then endContext c .ok s else takeHold c a s

/-! ## RELINK -/

/-- R105: a RETAINED extent becomes LIVE for the target in epoch `e`. -/
def relinkExtent (x v owner birth target e : Nat) (pred succ : Option Nat) (s : State) : State :=
  let s := unlinkChain v pred succ s
  let s := { s with epu.walk := s.epu.walk.map (walkAfterRemoval v x pred succ) }
  let s := changeFigures owner (fun f => { f with retained := f.retained - 1 }) s
  let s := setExtent x (.live v target birth e) s
  let s := changeFigures target (fun f => { f with used := f.used + 1, hold := f.hold - 1 }) s
  changeStats target (fun t => { t with restoresIn := satAdd t.restoresIn 1 }) s

/-- R104: a RELINK step in progress: the state, the places handled or passed over so far, the journal changes, the
previous owners, and the hold remaining. -/
structure Relink where
  state   : State
  done    : List Place
  changes : List (Option LifeChange)
  owners  : List Nat
  hold    : Nat

/-- R104: settles one HELD_RETAINED place. -/
def relinkPlace (c : Context) (r : Relink) (x : Nat) : Relink :=
  match extentAt r.state.pool x with
  | some (.retained v o b _ _ pred succ) =>
    let e := openEpoch r.state v
    { state := relinkExtent x v o b c.target e pred succ r.state, done := r.done ++ [⟨x, .relinked⟩],
      changes := r.changes ++ [some ⟨.birth, v, x, e, none⟩],
      owners := if o ∈ r.owners then r.owners else r.owners ++ [o], hold := r.hold - 1 }
  | _ =>
    { r with state := releaseHold c.target 1 r.state, done := r.done ++ [⟨x, .alreadyLive⟩],
             changes := r.changes ++ [none], hold := r.hold - 1 }

/-- R104: takes the places in list order until `fuel` of them have been handled; the second list is what is left. -/
def relinkPlaces (c : Context) : Nat → Relink → List Place → Relink × List Place
  | _, r, [] => (r, [])
  | 0, r, ps => (r, ps)
  | fuel + 1, r, p :: ps =>
    if p.mark = .heldRetained then relinkPlaces c fuel (relinkPlace c r p.extent) ps
    else relinkPlaces c (fuel + 1) { r with done := r.done ++ [p] } ps

/-- R104, R105: a RELINK step. -/
def relinkStep (c : Context) (s : State) : State :=
  let (r, rest) := relinkPlaces c 32 ⟨s, c.places.take c.cursor, [], [], c.hold⟩ (c.places.drop c.cursor)
  let s := appendChanges r.changes r.state
  let owners := if r.owners = [] then [] else c.target :: r.owners.filter fun o => o ≠ c.target
  let s := owners.foldl (fun s n => reevaluate n s) s
  let c := { c with places := r.done ++ rest, cursor := r.done.length, hold := r.hold }
  if countMark .heldRetained rest = 0 then endContext c .ok s else storeContext c s

/-! ## The restore step -/

/-- R110: the work of cancellation. -/
def cancelStep (c : Context) (s : State) : State := endContext { c with hold := 0 } .cancelled (releaseHold c.target c.hold s)

/-- R98: the work of one step of a context. -/
def contextStep (c : Context) (s : State) : State :=
  if c.cancel then cancelStep c s
  else match c.stage with
    | .verify => verifyStep c s
    | .charge => chargeStep c s
    | .relink => relinkStep c s

/-- R98: the context that a step serves. -/
def servedContext (s : State) : Option Context :=
  match s.rsq.service with
  | none => s.rsq.contexts.head?
  | some i =>
    match s.rsq.contexts.find? fun c => c.id = i with
    | some c => some c
    | none => s.rsq.contexts.head?

/-- R98: the pointer after the context of number `i`: the one that follows it in the list, or the front. -/
def serviceAfter (i : Nat) : List Context → Option Nat
  | [] => none
  | c :: cs => if c.id = i then (cs.head?).map (·.id) else serviceAfter i cs

/-- R98: what the turn of a restore step does. With no context in use it changes nothing. -/
def restoreStep (s : State) : State :=
  match servedContext s with
  | none => s
  | some c => contextStep c { s with rsq.service := serviceAfter c.id s.rsq.contexts }

/-- The RS turn of a restore step. -/
def execRestoreStep (s : State) : Result := .next (turn agentRS (waitsWith s agentRS .restoreStep) restoreStep s)

/-! ## CANCEL_RESTORE -/

/-- R108: whether a context is the one a CANCEL_RESTORE on this link names. -/
def cancels (s : State) (link : Link) (restoreTag : Nat) (c : Context) : Bool :=
  c.tag = restoreTag ∧ c.submitter =
    (match link with
      | .head h => .head h (s.heads.get h).incarnation
      | .mgmt => .mgmt)

/-- R108: what the turn of a CANCEL_RESTORE does, and its reply. -/
def doCancelRestore (link : Link) (restoreTag : Nat) (s : State) : State × Reply :=
  if s.rsq.contexts.any (cancels s link restoreTag) then
    ({ s with rsq.contexts := s.rsq.contexts.map fun c => if cancels s link restoreTag c then { c with cancel := true } else c },
      .code .ok)
  else (s, .code .unknownRestore)

/-- The turn that takes a CANCEL_RESTORE. -/
def execCancelRestore (link : Link) (tag restoreTag : Nat) (s : State) : Result :=
  .next (requestTurn link tag (.cancelRestore restoreTag) (fun i t =>
    answer 0x16 link i tag (doCancelRestore link restoreTag t).2 (doCancelRestore link restoreTag t).1) s)

end Sys2Proof.Machine
end

