-- ==== Sys2Proof/Machine/Startup.lean ====
section
/-! DEFINITION. Start-up and FORMAT (R9 to R11, R177, R178): the loss of the main supply, power-on, RESTART, the start
scan with its stages, and FORMAT. -/

namespace Sys2Proof.Machine

/-! ## What is held in the part -/

/-- Table 9-1, R42: a head keeps what table memory holds of it. -/
def dropHead (H : Head) : Head :=
  { H with link := .down, cleanup := none, detect := none, requests := [], tags := [], notices := [], missed := false,
           slots := List.replicate 32 Slot.free0 }

/-- Table 8-1, R116: a channel keeps its settings; `slots` is the number of its staging slots. -/
def dropChannel (slots : Nat) (x : Channel) : Channel :=
  { Channel.reset with settings := x.settings, staging := emptyStaging slots }

/-- R133: the four channels after power-on or RESTART. -/
def dropChannels (code : Nat) (q : Quad Channel) : Quad Channel :=
  ⟨dropChannel (splitSlots code).a0 q.a0, dropChannel (splitSlots code).a1 q.a1, dropChannel (splitSlots code).a2 q.a2,
   dropChannel (splitSlots code).a3 q.a3⟩

/-- R78: a volume whose snapshots hold no pin. -/
def dropPins (V : Volume) : Volume := { V with catalogue := V.catalogue.map fun p => { p with pins := 0 } }

/-- R41: an account whose statistics are 0. -/
def dropStats (a : Account) : Account := { a with stats := ⟨0, 0, 0, 0, 0⟩ }

/-- R9, R173, R71, R98, R138, R142, R120, R165: the part loses or discards the state it holds outside table memory.
Each item takes at once the value that the start scan gives it. -/
def dropHeld (s : State) : State :=
  { s with
    clock := { s.clock with window := .closed, windowDue := none }
    accounts := mapTable dropStats s.accounts
    volumes := mapTable dropPins s.volumes
    heads := s.heads.map dropHead
    mlu := ⟨[], [], [], false, .account, 1, 0⟩
    epu := ⟨[], [], none, .walkStep⟩
    rsq := ⟨[], none⟩
    channels := dropChannels s.settings.split s.channels
    dpu := ⟨[], [], none, 3, 3⟩
    arb := { s.arb with slotPointer := 0, roundRobin := 8, waiting := [] } }

/-! ## The stages of the start scan -/

/-- R115: the window state at a start. -/
def startWindow (s : State) : State := { s with clock.window := if s.clock.isSet then s.given else .closed }

/-- R10: whether an extent record is RESERVED. -/
def isReserved : Extent → Bool
  | .reserved .. => true
  | _ => false

/-- R10: the number of RESERVED extents. -/
def reservedCount (p : Pool) : Nat := (p.extents.filter fun x => isReserved x.2).length

/-- R10: the number of extents out of FREE in a zone. -/
def zoneHeld (p : Pool) (z : Nat) : Nat := (p.extents.filter fun x => zoneOf p x.1 = z).length

/-- R10: F and the zone free counts recounted from the extent table. -/
def recount (p : Pool) : Pool :=
  { p with free := p.capacity - p.extents.length,
           zoneFree := (List.range zoneCount).map fun z => zoneCovers p z - zoneHeld p z }

/-- R10, R177 stage 2: every RESERVED extent becomes FREE. -/
def freeAllReserved (p : Pool) : Pool := recount { p with extents := p.extents.filter fun x => !isReserved x.2 }

/-- R41, R177 stage 3. -/
def settleAccount (a : Account) : Account :=
  { a with figures := { a.figures with pending := 0, hold := 0 }, stats := ⟨0, 0, 0, 0, 0⟩ }

/-- R64: the number of extents out of FREE on a volume. -/
def heldCount (p : Pool) (v : Nat) : Nat := (p.extents.filter fun x => volumeOf x.2 = v).length

/-- R82, steps 2 and 3: the pin count becomes 0, and an expire-pending LIVE snapshot becomes EXPIRING. -/
def settleSnapshot (p : Snapshot) : Snapshot :=
  if p.state = .live ∧ p.expirePending then { p with state := .expiring, expirePending := false, pins := 0 }
  else { p with pins := 0 }

/-- R82, steps 1 to 3, at every volume. -/
def settleVolumes (p : Pool) (t : Table Volume) : Table Volume :=
  t.map fun x => (x.1, { x.2 with held := heldCount p x.1, catalogue := x.2.catalogue.map settleSnapshot })

/-- R82, step 4: whether one queue entry comes before another. -/
def queueBefore (a b : Nat × Nat) : Bool := a.2 < b.2 || (a.2 = b.2 && a.1 ≤ b.1)

/-- R82, step 4: places an entry in an ordered queue. -/
def placeEntry (a : Nat × Nat) : List (Nat × Nat) → List (Nat × Nat)
  | [] => [a]
  | b :: l => if queueBefore a b then a :: b :: l else b :: placeEntry a l

/-- R82, step 4: the EXPIRING snapshots of the pool, as (volume, epoch). -/
def expiringSnapshots (t : Table Volume) : List (Nat × Nat) :=
  t.flatMap fun x => (x.2.catalogue.filter fun p => p.state = .expiring).map fun p => (x.1, p.epoch)

/-- R82, R177 stage 4: the volumes, the expiry queue and the rotation checks. -/
def settleEpochs (s : State) : State :=
  let s := { s with volumes := settleVolumes s.pool s.volumes }
  let s := { s with epu.expiryQueue := (expiringSnapshots s.volumes).foldr placeEntry [] }
  s.volumes.foldl (fun s x => rotationCheck x.1 s) s

/-- R177: the start scan begins: the state held outside table memory is discarded and takes its start values, and the
window state is set. Table memory stays as the recorded turns left it until the scan has finished
(notes/assumptions/13.md). -/
def startScan (powerOn : Bool) (s : State) : State := { startWindow (dropHeld s) with part := .starting powerOn }

/-- R177, stages 2 to 4: what the start scan makes of table memory. -/
def settleTables (s : State) : State :=
  settleEpochs { s with pool := freeAllReserved s.pool, accounts := mapTable settleAccount s.accounts }

/-- R177: the notice of a start scan that made `t` of `s`. -/
def startDone (powerOn : Bool) (s t : State) : Notice :=
  .startDone powerOn t.clock.isSet t.pool.capacity (reservedCount s.pool) t.epu.expiryQueue.length

/-- R177: the start scan finishes, START_DONE is placed and the agents present. -/
def finishScan (powerOn : Bool) (s : State) : State :=
  let t := settleTables s
  present { placeMl (startDone powerOn s t) t with part := .running }

/-! ## Supply, RESTART and the end of the scan -/

/-- R9: the main supply is lost: what the part holds outside table memory and the backup supply is lost. -/
def execMainSupplyLoss (s : State) : Result := .next { dropHeld s.fresh with part := .off }

/-- R175: the clock at power-on. -/
def powerOnClock (c : Clock) : Clock := if c.backupLost then { c with now := 0, isSet := false, backupLost := false } else c

/-- R177: power-on. A part that has supply is not powered on again. -/
def execPowerOn (s : State) : Result :=
  .next (match s.part with
    | .off => startScan true { s.fresh with clock := powerOnClock s.clock }
    | _ => s.fresh)

/-- R177: the turn that takes a RESTART. -/
def execRestart (tag : Nat) (s : State) : Result :=
  .next (requestTurn .mgmt tag .restart (fun i t => startScan false (answer 0x41 .mgmt i tag (.code .ok) t)) s)

/-- R177: the start scan finishes. -/
def execStartScanEnd (s : State) : Result :=
  .next (match s.part with
    | .starting powerOn => finishScan powerOn s.fresh
    | _ => s.fresh)

/-! ## FORMAT -/

/-- R178, check 2: a link that is not DOWN or a cleanup that is pending. -/
def headsBusy (s : State) : Bool := four.any fun h => (s.heads.get h).link ≠ .down || (s.heads.get h).cleanup.isSome

/-- Table 11-5: the checks of a FORMAT. -/
def formatCheck (s : State) (capacity : Nat) : Option Code :=
  if capacity < minCapacity ∨ maxCapacity < capacity then some .badArgument
  else if headsBusy s then some .notIdle
  else if channelsIdle s then none
  else some .notIdle

/-- R5, R11: a pool with every extent FREE. -/
def freshPool (capacity floor : Nat) : Pool :=
  let p : Pool := ⟨capacity, min floor capacity, capacity, [], []⟩
  { p with zoneFree := (List.range zoneCount).map (zoneCovers p) }

/-- R41: an account after a FORMAT. -/
def formatAccount (a : Account) : Account :=
  { a with
    body := match a.body with | .person p => .person { p with quota := .under } | .group g => .group g
    figures := ⟨0, 0, 0, 0⟩, stats := ⟨0, 0, 0, 0, 0⟩ }

/-- R8, R42: a head after a FORMAT. -/
def formatHead (p : Pool) (h : Nat) (H : Head) : Head :=
  { H with zone := 16 * h, position := zoneFirst p (16 * h), slots := List.replicate 32 Slot.free0 }

/-- R69: answers the management waiters of a seal-queue entry. -/
def cancelWaiters (s : State) (e : SealEntry) : State :=
  e.waiters.foldl (fun s w => match w with | .mgmt tag => answer 0x14 .mgmt 0 tag (.sealCancelled e.volume) s | _ => s) s

/-- R111: answers a context of the management link. -/
def cancelContext (s : State) (c : Context) : State :=
  match c.submitter with
  | .mgmt => answer 0x15 .mgmt 0 c.tag (restoreReply c .cancelled) s
  | .head .. => s

/-- R69, R111: the answers that a FORMAT sends before its own. -/
def cancelAll (s : State) : State := s.rsq.contexts.foldl cancelContext (s.epu.sealQueue.foldl cancelWaiters s)

/-- R178: the state after an accepted FORMAT. -/
def formatted (capacity floor : Nat) (s : State) : State :=
  let p := freshPool capacity floor
  let q := s.heads
  { s with
    pool := p
    journal := ⟨[], 0, 0⟩
    accounts := mapTable formatAccount s.accounts
    volumes := []
    settings := { s.settings with poolLastSeal := none, passCounter := 1 }
    heads := ⟨formatHead p 0 q.a0, formatHead p 1 q.a1, formatHead p 2 q.a2, formatHead p 3 q.a3⟩
    epu := { s.epu with sealQueue := [], expiryQueue := [], walk := none }
    rsq := ⟨[], none⟩
    channels := s.channels.map fun x => { x with passQueue := [] } }

/-- R178: what the turn of a FORMAT does, and its reply. -/
def doFormat (capacity floor : Nat) (s : State) : State × Reply :=
  match formatCheck s capacity with
  | some c => (s, .code c)
  | none => (formatted capacity floor (cancelAll s), .formatted capacity (min floor capacity))

/-- R178: the turn that takes a FORMAT. -/
def execFormat (tag capacity floor : Nat) (s : State) : Result :=
  .next (managementTurn tag (.format capacity floor) (doFormat capacity floor) s)

end Sys2Proof.Machine
end

