-- ==== Sys2Proof/Machine/Management.lean ====
section
/-! DEFINITION. The management link: the arrival of a request, STATUS and the table cursor of Chapter 11, and
LOAD_ARBITER and QUERY_ARBITER of Chapter 10. -/

namespace Sys2Proof.Machine

/-! ## Arrival -/

/-- Table 11-1: the checks of a management request. -/
def mgmtCheck (m : Mlu) (tag : Nat) (r : Option Request) : Option Code :=
  if tag ∈ m.tags then some .tagInUse
  else if 16 ≤ m.requests.length then some .busy
  else if r.isNone then some .badArgument
  else none

/-- R171: a management request while the part runs. -/
def takeMgmtRequest (kind tag : Nat) (r : Option Request) (s : State) : State :=
  match mgmtCheck s.mlu tag r, r with
  | some c, _ => emit (.reply .mgmt 0 tag kind (.code c)) s
  | none, some r => { s with mlu := { s.mlu with requests := s.mlu.requests ++ [⟨0, tag, r⟩], tags := s.mlu.tags ++ [tag] } }
  | none, none => s

/-- R171, R172: the answer to a management request during a start scan. -/
def startingReply (s : State) (r : Option Request) : Reply :=
  if r = some .status then .starting s.clock.now s.clock.isSet else .code .notReady

/-- R171: a request arrives on the management link. -/
def execManagementRequestArrival (frame : MgmtFrame) (s : State) : Result :=
  .next (match s.part, readManagementFrame frame with
    | .starting _, .request kind tag r => emit (.reply .mgmt 0 tag kind (startingReply s r)) s.fresh
    | .running, .request kind tag r => event (takeMgmtRequest kind tag r) s
    | _, _ => s.fresh)

/-! ## STATUS -/

/-- R172: a channel in the reply. -/
def channelStatus (x : Channel) : ChannelStatus := ⟨x.state, x.condition, x.pass.map (·.id)⟩

/-- R172: a head in the reply. -/
def headStatus (H : Head) : HeadStatus :=
  ⟨H.link, H.incarnation, H.cleanup.map (·.cause), H.requests.length, H.notices.length, H.barred⟩

/-- R172, Table 11-2: the reply of STATUS after start-up. -/
def statusReply (s : State) : StatusReply where
  now := s.clock.now
  clockSet := s.clock.isSet
  capacity := s.pool.capacity
  free := s.pool.free
  floor := s.pool.floor
  append := s.journal.append
  oldest := s.journal.oldest
  sealEntries := s.epu.sealQueue.length
  expiring := s.epu.expiryQueue.length
  walk := s.epu.walk.map fun w => (w.volume, w.epoch, w.visited, w.freed)
  contexts := s.rsq.contexts.length
  cancelling := (s.rsq.contexts.filter (·.cancel)).length
  window := s.clock.window
  windowLeft := remainingWindow s
  windowOpen := s.settings.windowOpen
  windowClose := s.settings.windowClose
  channels := s.channels.map channelStatus
  split := s.settings.split
  inFlight := s.dpu.inFlight.length
  passCounter := s.settings.passCounter
  heads := s.heads.map headStatus
  graceHold := s.settings.graceHold
  graceStart := s.settings.graceStart
  reservationHold := s.settings.reservationHold
  poolSpacing := s.settings.poolSpacing
  activeSet := activeName s

/-- R172: the turn that takes a STATUS. -/
def execStatus (tag : Nat) (s : State) : Result :=
  .next (managementTurn tag .status (fun t => (t, .status (statusReply t))) s)

/-! ## The table cursor -/

/-- Table 11-3: whether a position is in the range of its table. -/
def positionInRange (t : CursorTable) (position epoch : Nat) : Bool :=
  match t with
  | .account => 1 ≤ position && position ≤ 65535
  | .volume => position ≤ 63
  | .snapshot => position ≤ 63 && 1 ≤ epoch && epoch < maxEpoch
  | .extent => position < maxCapacity
  | .journal => position < seqLimit
  | .reservation => position ≤ 127
  | .channel => position ≤ 3

/-- R173: what the turn of a SET_CURSOR does, and its reply. -/
def doSetCursor (table : Option CursorTable) (position epoch : Nat) (s : State) : State × Reply :=
  match table with
  | none => (s, .code .badArgument)
  | some t =>
    if positionInRange t position epoch then
      ({ s with mlu := { s.mlu with cursorTable := t, cursorPos := position,
                                    cursorEpoch := if t = .snapshot then epoch else 0 } }, .code .ok)
    else (s, .code .badArgument)

/-- R173: the turn that takes a SET_CURSOR. -/
def execSetCursor (tag : Nat) (table : Option CursorTable) (position epoch : Nat) (s : State) : Result :=
  .next (managementTurn tag (.setCursor table position epoch) (doSetCursor table position epoch) s)

/-- A record with its position. -/
abbrev Placed := (Nat × Nat) × CursorRecord

/-- Table 11-3, SNAPSHOT: the records of one volume from a position. -/
def snapshotsFrom (position epoch : Nat) (x : Nat × Volume) : List Placed :=
  (x.2.catalogue.filter fun p => position < x.1 ∨ (position = x.1 ∧ epoch ≤ p.epoch)).map fun p =>
    ((x.1, p.epoch), .snapshot x.1 p)

/-- Table 11-3, RESERVATION: the record of a position. -/
def reservationAt (s : State) (i : Nat) : Placed :=
  ((i, 0), .reservation (i / 32) (i % 32) (slotOf s (Fin.ofNat 4 (i / 32)) (i % 32)))

/-- The numbers from `position`, at most `n` of them, below `last`. -/
def numbersFrom (position n last : Nat) : List Nat := (List.range (min n (last - position))).map (position + ·)

/-- Table 11-3: at most `n` records from the cursor's position, in order. -/
def recordsFrom (s : State) (n : Nat) : List Placed :=
  let position := s.mlu.cursorPos
  match s.mlu.cursorTable with
  | .account => ((s.accounts.filter fun x => position ≤ x.1).take n).map fun x => ((x.1, 0), .account x.1 x.2)
  | .volume => ((s.volumes.filter fun x => position ≤ x.1).take n).map fun x => ((x.1, 0), .volume x.1 x.2)
  | .snapshot => (s.volumes.flatMap (snapshotsFrom position s.mlu.cursorEpoch)).take n
  | .extent => (numbersFrom position n s.pool.capacity).map fun x => ((x, 0), .extent x (extentAt s.pool x))
  | .journal =>
    ((s.journal.entries.drop (max position s.journal.oldest - s.journal.oldest)).take n).map fun e => ((e.seq, 0), .journal e)
  | .reservation => (numbersFrom position n 128).map (reservationAt s)
  | .channel => (numbersFrom position n 4).map fun c => ((c, 0), .channel (Fin.ofNat 4 c) (s.channels.get (Fin.ofNat 4 c)))

/-- R174: the number of records that a count asks for. -/
def recordCount (count : Nat) : Nat := clamp 1 16 count

/-- R40, R133, R174: the statistics of one returned record are set to 0. -/
def clearRecord (s : State) (r : Placed) : State :=
  match r.2 with
  | .account n _ => modifyAccount n (fun a => { a with stats := ⟨0, 0, 0, 0, 0⟩ }) s
  | .channel c _ => modifyChannel c (fun x => { x with stats := ⟨0, 0, 0, 0, 0⟩ }) s
  | _ => s

/-- R174: the position just past the last record returned. -/
def advanceCursor (records : List Placed) (s : State) : State :=
  match records.getLast? with
  | none => s
  | some r =>
    match s.mlu.cursorTable with
    | .snapshot => { s with mlu := { s.mlu with cursorPos := r.1.1, cursorEpoch := r.1.2 + 1 } }
    | _ => { s with mlu.cursorPos := r.1.1 + 1 }

/-- R174: what the turn of a CURSOR_READ does, and its reply. -/
def doCursorRead (count : Nat) (advance clear : Bool) (s : State) : State × Reply :=
  let n := recordCount count
  let found := recordsFrom s (n + 1)
  let records := found.take n
  let t := if clear then records.foldl clearRecord s else s
  (if advance then advanceCursor records t else t,
    .cursor ⟨s.mlu.cursorTable, (records.head?).map Prod.fst, records.map Prod.snd, found.length ≤ n⟩)

/-- R174: the turn that takes a CURSOR_READ. -/
def execCursorRead (tag count : Nat) (advance clear : Bool) (s : State) : Result :=
  .next (managementTurn tag (.cursorRead count advance clear) (doCursorRead count advance clear) s)

/-! ## LOAD_ARBITER and QUERY_ARBITER -/

/-- R169: an entry that names an agent and a known qualifier. -/
def readEntry (e : EntryRequest) : Option ArbEntry :=
  if e.agent ≤ 8 then e.qualifier.map fun q => ⟨e.agent, q⟩ else none

/-- Table 10-4, check 1: the set that a LOAD_ARBITER carries, or none for a refused one. -/
def readSet (slots priority : List EntryRequest) : Option ArbSet :=
  if slots.length = 0 ∨ 16 < slots.length ∨ 9 < priority.length then none
  else match slots.mapM readEntry, priority.mapM readEntry with
    | some a, some b => some ⟨a, b⟩
    | _, _ => none

/-- R169: what the turn of a LOAD_ARBITER does, and its reply. -/
def doLoadArbiter (name : Option SetName) (slots priority : List EntryRequest) (s : State) : State × Reply :=
  match name, readSet slots priority with
  | some n, some x =>
    if n = activeName s then (s, .code .activeSet)
    else match n with
      | .day => ({ s with settings.day := x }, .code .ok)
      | .night => ({ s with settings.night := x }, .code .ok)
  | _, _ => (s, .code .badArgument)

/-- R169: the turn that takes a LOAD_ARBITER. -/
def execLoadArbiter (tag : Nat) (name : Option SetName) (slots priority : List EntryRequest) (s : State) : Result :=
  .next (managementTurn tag (.loadArbiter name slots priority) (doLoadArbiter name slots priority) s)

/-- R170: the reply of QUERY_ARBITER. -/
def arbiterReply (s : State) : ArbiterReply where
  day := s.settings.day
  night := s.settings.night
  active := activeName s
  slotPointer := s.arb.slotPointer
  roundRobin := s.arb.roundRobin
  agents := (List.range 9).map fun a => (look s.arb.waiting a).map fun w => (w.cls, w.age)

/-- R170: the turn that takes a QUERY_ARBITER. -/
def execQueryArbiter (tag : Nat) (s : State) : Result :=
  .next (managementTurn tag .queryArbiter (fun t => (t, .arbiter (arbiterReply t))) s)

end Sys2Proof.Machine
end

