-- ==== Sys2Proof/Machine/Dispatch.lean ====
section
/-! DEFINITION. One arm for each command. -/

namespace Sys2Proof.Machine

def exec (i : Instr) (s : State) : Host.Outcome State Fault Refusal :=
  match i with
  | .powerOn => Sys2Proof.Machine.execPowerOn s
  | .mainSupplyLoss => Sys2Proof.Machine.execMainSupplyLoss s
  | .wallClockTick => Sys2Proof.Machine.execWallClockTick s
  | .join h frame => Sys2Proof.Machine.execJoin h frame s
  | .leave h frame => Sys2Proof.Machine.execLeave h frame s
  | .keep h frame => Sys2Proof.Machine.execKeep h frame s
  | .noticeRead link frame => Sys2Proof.Machine.execNoticeRead link frame s
  | .headRequestArrival h frame => Sys2Proof.Machine.execHeadRequestArrival h frame s
  | .managementRequestArrival frame => Sys2Proof.Machine.execManagementRequestArrival frame s
  | .detectExpiry h => Sys2Proof.Machine.execDetectExpiry h s
  | .lossCleanup h => Sys2Proof.Machine.execLossCleanup h s
  | .reserve h tag account volume want minimum => Sys2Proof.Machine.execReserve h tag account volume want minimum s
  | .commit h tag slot generation count => Sys2Proof.Machine.execCommit h tag slot generation count s
  | .returnSlot h tag slot generation => Sys2Proof.Machine.execReturnSlot h tag slot generation s
  | .reservationDeadlineExpiry => Sys2Proof.Machine.execReservationDeadlineExpiry s
  | .reservationLapse => Sys2Proof.Machine.execReservationLapse s
  | .release h tag account volume extents => Sys2Proof.Machine.execRelease h tag account volume extents s
  | .seal link tag volume label => Sys2Proof.Machine.execSeal link tag volume label s
  | .sealOperation => Sys2Proof.Machine.execSealOperation s
  | .walkStep => Sys2Proof.Machine.execWalkStep s
  | .restore link tag r => Sys2Proof.Machine.execRestore link tag r s
  | .restoreStep => Sys2Proof.Machine.execRestoreStep s
  | .cancelRestore link tag restoreTag => Sys2Proof.Machine.execCancelRestore link tag restoreTag s
  | .queryAccount link tag account => Sys2Proof.Machine.execQueryAccount link tag account s
  | .queryVolume link tag volume => Sys2Proof.Machine.execQueryVolume link tag volume s
  | .status tag => Sys2Proof.Machine.execStatus tag s
  | .restart tag => Sys2Proof.Machine.execRestart tag s
  | .format tag capacity floor => Sys2Proof.Machine.execFormat tag capacity floor s
  | .setClock tag value => Sys2Proof.Machine.execSetClock tag value s
  | .setCursor tag table position epoch => Sys2Proof.Machine.execSetCursor tag table position epoch s
  | .cursorRead tag count advance clear => Sys2Proof.Machine.execCursorRead tag count advance clear s
  | .createAccount tag account kind settings parent => Sys2Proof.Machine.execCreateAccount tag account kind settings parent s
  | .setLimits tag account settings => Sys2Proof.Machine.execSetLimits tag account settings s
  | .setParent tag account parent => Sys2Proof.Machine.execSetParent tag account parent s
  | .deleteAccount tag account => Sys2Proof.Machine.execDeleteAccount tag account s
  | .setGraceHold tag on => Sys2Proof.Machine.execSetGraceHold tag on s
  | .setFloor tag floor => Sys2Proof.Machine.execSetFloor tag floor s
  | .setReservationHold tag seconds => Sys2Proof.Machine.execSetReservationHold tag seconds s
  | .createVolume tag volume settings => Sys2Proof.Machine.execCreateVolume tag volume settings s
  | .setVolume tag volume settings => Sys2Proof.Machine.execSetVolume tag volume settings s
  | .deleteVolume tag volume => Sys2Proof.Machine.execDeleteVolume tag volume s
  | .expire tag volume epoch => Sys2Proof.Machine.execExpire tag volume epoch s
  | .setPoolSpacing tag seconds => Sys2Proof.Machine.execSetPoolSpacing tag seconds s
  | .setWindow tag openTime closeTime => Sys2Proof.Machine.execSetWindow tag openTime closeTime s
  | .startPass tag volume target => Sys2Proof.Machine.execStartPass tag volume target s
  | .withdrawPass tag volume => Sys2Proof.Machine.execWithdrawPass tag volume s
  | .setChannel tag channel settings => Sys2Proof.Machine.execSetChannel tag channel settings s
  | .setSplit tag code => Sys2Proof.Machine.execSetSplit tag code s
  | .resume tag channel => Sys2Proof.Machine.execResume tag channel s
  | .clear tag channel => Sys2Proof.Machine.execClear tag channel s
  | .cancelPass tag channel => Sys2Proof.Machine.execCancelPass tag channel s
  | .setHeads tag r => Sys2Proof.Machine.execSetHeads tag r s
  | .loadArbiter tag set slots priority => Sys2Proof.Machine.execLoadArbiter tag set slots priority s
  | .queryArbiter tag => Sys2Proof.Machine.execQueryArbiter tag s
  | .graceDeadlineExpiry => Sys2Proof.Machine.execGraceDeadlineExpiry s
  | .graceLapse => Sys2Proof.Machine.execGraceLapse s
  | .windowChangeDetect => Sys2Proof.Machine.execWindowChangeDetect s
  | .windowEvent => Sys2Proof.Machine.execWindowEvent s
  | .passStart => Sys2Proof.Machine.execPassStart s
  | .evaluationStep => Sys2Proof.Machine.execEvaluationStep s
  | .passCompletion => Sys2Proof.Machine.execPassCompletion s
  | .frameSend => Sys2Proof.Machine.execFrameSend s
  | .transmissionEnd => Sys2Proof.Machine.execTransmissionEnd s
  | .accept frame => Sys2Proof.Machine.execAccept frame s
  | .defer frame => Sys2Proof.Machine.execDefer frame s
  | .refuse frame => Sys2Proof.Machine.execRefuse frame s
  | .ready frame => Sys2Proof.Machine.execReady frame s
  | .unknownOffsiteFrame frame => Sys2Proof.Machine.execUnknownOffsiteFrame frame s
  | .responseTimeout c => Sys2Proof.Machine.execResponseTimeout c s
  | .probeDue c => Sys2Proof.Machine.execProbeDue c s
  | .poolReadIssue => Sys2Proof.Machine.execPoolReadIssue s
  | .poolReadCompletion c slot passId result => Sys2Proof.Machine.execPoolReadCompletion c slot passId result s
  | .startScanEnd => Sys2Proof.Machine.execStartScanEnd s
  | .backupSupplyLoss => Sys2Proof.Machine.execBackupSupplyLoss s

end Sys2Proof.Machine
end

