-- ==== Sys2Proof/WellFormed.lean ====
section
/-! DEFINITION. Which commands are well formed: every operand that the manual lays out in a frame (R179, R181) fits its
field, and a pool read returns one whole payload (R137). The manual gives no field for the items of the management
kinds 0x40 to 0x5C, so any item of theirs is well formed; the rules clamp or refuse what is out of range. -/

namespace Sys2Proof

/-- Whether a number fits a field of `bytes` bytes. -/
def fitsBytes (bytes n : Nat) : Bool := n < 256 ^ bytes

/-- Whether every extent index fits its 4 bytes. -/
def extentsFit (xs : List Nat) : Bool := xs.all (fitsBytes 4)

/-- R181: whether a RESTORE fits its layout. A source of 0 is sent for none. -/
def RestoreRequest.fits (r : RestoreRequest) : Bool :=
  fitsBytes 2 r.target && (match r.source with | some a => fitsBytes 2 a && a != 0 | none => true) && fitsBytes 1 r.volume &&
    fitsBytes 4 r.epoch && fitsBytes 1 r.mode && fitsBytes 2 r.extents.length && extentsFit r.extents

/-- R181: whether the items of a request fit the layout of its kind, where the manual gives one. -/
def Request.fits : Request → Bool
  | .reserve a v n m => fitsBytes 2 a && fitsBytes 1 v && fitsBytes 2 n && fitsBytes 2 m
  | .commit k g n => fitsBytes 1 k && fitsBytes 1 g && fitsBytes 2 n
  | .returnSlot k g => fitsBytes 1 k && fitsBytes 1 g
  | .release a v xs => fitsBytes 2 a && fitsBytes 1 v && fitsBytes 1 xs.length && extentsFit xs
  | .seal v l => fitsBytes 1 v && fitsBytes 1 l
  | .restore r => r.fits
  | .cancelRestore t => fitsBytes 2 t
  | .queryAccount a => fitsBytes 2 a
  | .queryVolume v => fitsBytes 1 v
  | .status => true
  | .restart => true
  | .format _ _ => true
  | .setClock _ => true
  | .setCursor _ _ _ => true
  | .cursorRead _ _ _ => true
  | .createAccount _ _ _ _ => true
  | .setLimits _ _ => true
  | .setParent _ _ => true
  | .deleteAccount _ => true
  | .setGraceHold _ => true
  | .setFloor _ => true
  | .setReservationHold _ => true
  | .createVolume _ _ => true
  | .setVolume _ _ => true
  | .deleteVolume _ => true
  | .expire _ _ => true
  | .setPoolSpacing _ => true
  | .setWindow _ _ => true
  | .startPass _ _ => true
  | .withdrawPass _ => true
  | .setChannel _ _ => true
  | .setSplit _ => true
  | .resume _ => true
  | .clear _ => true
  | .cancelPass _ => true
  | .setHeads _ => true
  | .loadArbiter _ _ _ => true
  | .queryArbiter => true

/-- The turn that a command stands for, for a command that takes a request from a queue: the link whose front request is
taken, the request's tag, and the request. -/
def Instr.taken (i : Instr) : Option (Link × Nat × Request) :=
  match i with
  | .powerOn => none
  | .mainSupplyLoss => none
  | .wallClockTick => none
  | .join _ _ => none
  | .leave _ _ => none
  | .keep _ _ => none
  | .noticeRead _ _ => none
  | .headRequestArrival _ _ => none
  | .managementRequestArrival _ => none
  | .detectExpiry _ => none
  | .lossCleanup _ => none
  | .reserve h tag account volume want minimum => some (.head h, tag, (.reserve account volume want minimum))
  | .commit h tag slot generation count => some (.head h, tag, (.commit slot generation count))
  | .returnSlot h tag slot generation => some (.head h, tag, (.returnSlot slot generation))
  | .reservationDeadlineExpiry => none
  | .reservationLapse => none
  | .release h tag account volume extents => some (.head h, tag, (.release account volume extents))
  | .seal link tag volume label => some (link, tag, (.seal volume label))
  | .sealOperation => none
  | .walkStep => none
  | .restore link tag r => some (link, tag, (.restore r))
  | .restoreStep => none
  | .cancelRestore link tag restoreTag => some (link, tag, (.cancelRestore restoreTag))
  | .queryAccount link tag account => some (link, tag, (.queryAccount account))
  | .queryVolume link tag volume => some (link, tag, (.queryVolume volume))
  | .status tag => some (.mgmt, tag, .status)
  | .restart tag => some (.mgmt, tag, .restart)
  | .format tag capacity floor => some (.mgmt, tag, (.format capacity floor))
  | .setClock tag value => some (.mgmt, tag, (.setClock value))
  | .setCursor tag table position epoch => some (.mgmt, tag, (.setCursor table position epoch))
  | .cursorRead tag count advance zero => some (.mgmt, tag, (.cursorRead count advance zero))
  | .createAccount tag account kind settings parent => some (.mgmt, tag, (.createAccount account kind settings parent))
  | .setLimits tag account settings => some (.mgmt, tag, (.setLimits account settings))
  | .setParent tag account parent => some (.mgmt, tag, (.setParent account parent))
  | .deleteAccount tag account => some (.mgmt, tag, (.deleteAccount account))
  | .setGraceHold tag on => some (.mgmt, tag, (.setGraceHold on))
  | .setFloor tag floor => some (.mgmt, tag, (.setFloor floor))
  | .setReservationHold tag seconds => some (.mgmt, tag, (.setReservationHold seconds))
  | .createVolume tag volume settings => some (.mgmt, tag, (.createVolume volume settings))
  | .setVolume tag volume settings => some (.mgmt, tag, (.setVolume volume settings))
  | .deleteVolume tag volume => some (.mgmt, tag, (.deleteVolume volume))
  | .expire tag volume epoch => some (.mgmt, tag, (.expire volume epoch))
  | .setPoolSpacing tag seconds => some (.mgmt, tag, (.setPoolSpacing seconds))
  | .setWindow tag openTime closeTime => some (.mgmt, tag, (.setWindow openTime closeTime))
  | .startPass tag volume target => some (.mgmt, tag, (.startPass volume target))
  | .withdrawPass tag volume => some (.mgmt, tag, (.withdrawPass volume))
  | .setChannel tag channel settings => some (.mgmt, tag, (.setChannel channel settings))
  | .setSplit tag code => some (.mgmt, tag, (.setSplit code))
  | .resume tag channel => some (.mgmt, tag, (.resume channel))
  | .clear tag channel => some (.mgmt, tag, (.clear channel))
  | .cancelPass tag channel => some (.mgmt, tag, (.cancelPass channel))
  | .setHeads tag r => some (.mgmt, tag, (.setHeads r))
  | .loadArbiter tag set slots priority => some (.mgmt, tag, (.loadArbiter set slots priority))
  | .queryArbiter tag => some (.mgmt, tag, .queryArbiter)
  | .graceDeadlineExpiry => none
  | .graceLapse => none
  | .windowChangeDetect => none
  | .windowEvent => none
  | .passStart => none
  | .evaluationStep => none
  | .passCompletion => none
  | .frameSend => none
  | .transmissionEnd => none
  | .accept _ => none
  | .defer _ => none
  | .refuse _ => none
  | .ready _ => none
  | .unknownOffsiteFrame _ => none
  | .responseTimeout _ => none
  | .probeDue _ => none
  | .poolReadIssue => none
  | .poolReadCompletion _ _ _ _ => none
  | .startScanEnd => none
  | .backupSupplyLoss => none

/-- Whether the request that a command takes fits its frame. -/
def takenFits (i : Instr) : Bool :=
  match i.taken with
  | some (_, tag, r) => fitsBytes 2 tag && r.fits
  | none => true

/-- Whether a management frame given by its items fits the envelope. -/
def mgmtFrameFits : MgmtFrame → Bool
  | .raw _ => true
  | .items _ _ tag none => fitsBytes 2 tag
  | .items _ _ tag (some r) => fitsBytes 2 tag && r.fits

/-- R137: a read that returns a payload returns 131,072 bytes. -/
def readFits : ReadResult → Bool
  | .payload bytes => bytes.length = payloadBytes
  | .fault => true

/-- Whether a command is well formed. -/
def Instr.wellFormed (i : Instr) : Bool :=
  match i with
  | .powerOn => true
  | .mainSupplyLoss => true
  | .wallClockTick => true
  | .join _ _ => true
  | .leave _ _ => true
  | .keep _ _ => true
  | .noticeRead _ _ => true
  | .headRequestArrival _ _ => true
  | .managementRequestArrival f => mgmtFrameFits f
  | .detectExpiry _ => true
  | .lossCleanup _ => true
  | .reserve _ _ _ _ _ _ => takenFits i
  | .commit _ _ _ _ _ => takenFits i
  | .returnSlot _ _ _ _ => takenFits i
  | .reservationDeadlineExpiry => true
  | .reservationLapse => true
  | .release _ _ _ _ _ => takenFits i
  | .seal _ _ _ _ => takenFits i
  | .sealOperation => true
  | .walkStep => true
  | .restore _ _ _ => takenFits i
  | .restoreStep => true
  | .cancelRestore _ _ _ => takenFits i
  | .queryAccount _ _ _ => takenFits i
  | .queryVolume _ _ _ => takenFits i
  | .status _ => takenFits i
  | .restart _ => takenFits i
  | .format _ _ _ => takenFits i
  | .setClock _ _ => takenFits i
  | .setCursor _ _ _ _ => takenFits i
  | .cursorRead _ _ _ _ => takenFits i
  | .createAccount _ _ _ _ _ => takenFits i
  | .setLimits _ _ _ => takenFits i
  | .setParent _ _ _ => takenFits i
  | .deleteAccount _ _ => takenFits i
  | .setGraceHold _ _ => takenFits i
  | .setFloor _ _ => takenFits i
  | .setReservationHold _ _ => takenFits i
  | .createVolume _ _ _ => takenFits i
  | .setVolume _ _ _ => takenFits i
  | .deleteVolume _ _ => takenFits i
  | .expire _ _ _ => takenFits i
  | .setPoolSpacing _ _ => takenFits i
  | .setWindow _ _ _ => takenFits i
  | .startPass _ _ _ => takenFits i
  | .withdrawPass _ _ => takenFits i
  | .setChannel _ _ _ => takenFits i
  | .setSplit _ _ => takenFits i
  | .resume _ _ => takenFits i
  | .clear _ _ => takenFits i
  | .cancelPass _ _ => takenFits i
  | .setHeads _ _ => takenFits i
  | .loadArbiter _ _ _ _ => takenFits i
  | .queryArbiter _ => takenFits i
  | .graceDeadlineExpiry => true
  | .graceLapse => true
  | .windowChangeDetect => true
  | .windowEvent => true
  | .passStart => true
  | .evaluationStep => true
  | .passCompletion => true
  | .frameSend => true
  | .transmissionEnd => true
  | .accept _ => true
  | .defer _ => true
  | .refuse _ => true
  | .ready _ => true
  | .unknownOffsiteFrame _ => true
  | .responseTimeout _ => true
  | .probeDue _ => true
  | .poolReadIssue => true
  | .poolReadCompletion _ slot passId r => slot ≤ 7 && passId ≤ maxCount && readFits r
  | .startScanEnd => true
  | .backupSupplyLoss => true

end Sys2Proof
end

