-- ==== Sys2Proof/Safety.lean ====
section
/-! DEFINITION. The terms that statements use: when a turn is an agent's, what a link is left with after a request is
taken, which runs are safe, and the invariants of the state. -/

namespace Sys2Proof.Machine

/-! ## Safe runs -/

/-- A step is safe when it gives a next state. The part stops for no command. -/
def Safe (s : State) : Prop := ∃ t, step s = .next t

/-! ## Turns -/

/-- R162, R164: the part runs and its next turn is agent `a`'s. -/
abbrev Granted (s : State) (a : Nat) : Prop := s.part = .running ∧ (winner s).map Prod.fst = some a

/-- R157, R171: the next turn takes the request `r` with tag `tag` from the front of a link's queue. -/
abbrev Takes (s : State) (link : Link) (tag : Nat) (r : Request) : Prop :=
  Granted s (agentOf link) ∧ presents s link tag r = true

/-- R157: the next turn takes a head's request, and the head is still UP with the incarnation it was sent under. -/
abbrev TakesUp (s : State) (h : HeadId) (tag : Nat) (r : Request) : Prop :=
  Takes s (.head h) tag r ∧ (s.heads.get h).link = .up ∧ frontIncarnation s (.head h) = (s.heads.get h).incarnation

/-- R171: the management link after a request has been taken and answered. -/
def tookMgmt (s : State) (tag : Nat) : Mlu := { s.mlu with requests := s.mlu.requests.tail, tags := s.mlu.tags.erase tag }

/-- R171: the management link after a request has been taken that is not answered yet. -/
def heldMgmt (s : State) : Mlu := { s.mlu with requests := s.mlu.requests.tail }

/-- R157: a head after its front request has been taken and answered. -/
def tookHead (tag : Nat) (H : Head) : Head := { H with requests := H.requests.tail, tags := H.tags.erase tag }

/-- R157: a head after its front request has been taken that is not answered yet. -/
def heldHead (H : Head) : Head := { H with requests := H.requests.tail }

/-- The reply to a request of a kind on the management link. -/
def mgmtReply (kind tag : Nat) (r : Reply) : List Output := [.reply .mgmt 0 tag kind r]

/-- The reply to a request of a kind on a head's link, under the head's present incarnation. -/
def headReply (kind : Nat) (s : State) (h : HeadId) (tag : Nat) (r : Reply) : List Output :=
  [.reply (.head h) (s.heads.get h).incarnation tag kind r]

/-- The figures of an account, all 0 for an undefined number. -/
def figuresOf (s : State) (n : Nat) : Figures := ((look s.accounts n).map (·.figures)).getD ⟨0, 0, 0, 0⟩

/-- R165, R166: the arbiter after a grant to agent `a`, before anything is presented. -/
def grantedArb (s : State) (a : Nat) (byRoundRobin : Bool) : Arbiter := (grantTurn a byRoundRobin s).arb

/-- R20: an account record with its member count changed, when it is a group's. -/
def withMembers (f : Nat → Nat) (a : Account) : Account :=
  match a.body with
  | .group g => { a with body := .group { g with members := f g.members } }
  | .person _ => a

/-- R37: a group that a member with figures `f` leaves. -/
def leftBy (f : Figures) (g : Account) : Account := withMembers (· - 1) { g with figures := subFigures f g.figures }

/-- R37: a group that a member with figures `f` joins. -/
def joinedBy (f : Figures) (g : Account) : Account := withMembers (· + 1) { g with figures := addFigures f g.figures }

/-- R1: an extent record without its chain links. -/
def withoutLinks : Extent → Extent
  | .retained v o b h d _ _ => .retained v o b h d none none
  | e => e

/-! ## Notices -/

/-- R160: a head after a notice for it. -/
def noticed (n : Notice) (H : Head) : Head :=
  if H.notices.length < 32 then { H with notices := H.notices ++ [n] } else { H with missed := true }

/-- R160: the management link after a notice for it. -/
def noticedMgmt (n : Notice) (M : Mlu) : Mlu :=
  if M.notices.length < 32 then { M with notices := M.notices ++ [n] } else { M with missed := true }

/-- R31, R32: the notice of a re-evaluation of an account, none when it leaves the quota state as it was. -/
def stateNotice (account : Nat) (old new : Quota) (standing soft : Nat) : Option Notice :=
  if new = old then none else some (.accountState account old.name new standing soft)

/-- R32: a head after an ACCOUNT_STATE notice, if there is one: placed while the head is UP and selects the kind. -/
def toldHead (n : Option Notice) (H : Head) : Head :=
  match n with
  | some n => if H.link = .up ∧ H.selectAccount = true then noticed n H else H
  | none => H

/-- R32: the management link after an ACCOUNT_STATE notice, if there is one. -/
def toldMgmt (n : Option Notice) (M : Mlu) : Mlu :=
  match n with
  | some n => noticedMgmt n M
  | none => M

/-- R160: the management link after notices for it, in order. -/
def noticedMgmtAll (l : List Notice) (M : Mlu) : Mlu := l.foldl (fun M n => noticedMgmt n M) M

/-- R32: a head after ACCOUNT_STATE notices, in order. -/
def toldHeadAll (l : List Notice) (H : Head) : Head := l.foldl (fun H n => toldHead (some n) H) H

/-- R31, R32: `told` holds once each, in an order that the rules leave open (notes/assumptions/17.md), the ACCOUNT_STATE
notices of those `touched` persons whose re-evaluation between `s` and `t` changed their quota state. -/
structure QuotaChangesTold (touched : Nat → Prop) (s t : State) (told : List Notice) : Prop where
  once : told.Nodup
  changed : ∀ z, z ∈ told ↔ ∃ n a p b, touched n ∧ look s.accounts n = some a ∧ a.body = .person p ∧
    look t.accounts n = some b ∧ nextQuota s.clock.now p (standingUse b) ≠ p.quota ∧
    z = .accountState n p.quota.name (nextQuota s.clock.now p (standingUse b)) (standingUse b) (softLimit p)

/-! ## What is presented -/

/-- R163, Table 10-1: the requests of class LOOKUP. Of these a head sends the first two only. -/
def LooksUp (r : Request) : Prop :=
  (∃ n, r = .queryAccount n) ∨ (∃ v, r = .queryVolume v) ∨ r = .queryArbiter ∨ ∃ n advance clear, r = .cursorRead n advance clear

/-- R120, R124, R131: a kind of table work that a channel has ready. -/
def HasReady (s : State) (c : ChanId) : DpWork → Prop
  | .start => (s.channels.get c).state = .idle ∧ (s.channels.get c).settings.enable = true ∧
      (s.channels.get c).passQueue ≠ [] ∧
      (s.clock.window = .open_ ∨ (s.channels.get c).settings.windowOverride = true)
  | .evaluate => ((s.channels.get c).state = .streaming ∨ (s.channels.get c).state = .probing) ∧
      ∃ p, (s.channels.get c).pass = some p ∧ p.phase ≠ .close ∧ p.stall = .none
  | .complete => (s.channels.get c).state ≠ .idle ∧ (s.channels.get c).state ≠ .stopped ∧
      ∃ p, (s.channels.get c).pass = some p ∧ p.phase = .close ∧ p.closeAccepted = true

/-- R120: how far channel `c` stands behind the one after the channel served last. -/
def turnsAway (s : State) (c : ChanId) : Nat := (c.val + 3 - s.dpu.lastServed.val) % 4

/-- R71, R98, R120, R157, R158, R163, R171: what agent `a`, other than CK, has to present in this state, `none` when it
has nothing: a head its loss cleanup and else its front request, MG its front request, RS a restore step, SN a seal or a
walk step by turns, DP the work of the first channel after the one served last. -/
structure Offers (s : State) (a : Nat) (o : Option (OpClass × Work)) : Prop where
  cleanup : ∀ h : HeadId, a = h.val → (s.heads.get h).cleanup ≠ none → o = some (.update, .link)
  head : ∀ h : HeadId, a = h.val → (s.heads.get h).cleanup = none →
    ((s.heads.get h).requests = [] → o = none) ∧
    ∀ q l, (s.heads.get h).requests = q :: l →
      (LooksUp q.request → o = some (.lookup, .link)) ∧ (¬ LooksUp q.request → o = some (.update, .link))
  mgmt : a = 4 → (s.mlu.requests = [] → o = none) ∧
    ∀ q l, s.mlu.requests = q :: l →
      (LooksUp q.request → o = some (.lookup, .link)) ∧ (¬ LooksUp q.request → o = some (.update, .link))
  restore : a = 5 → (s.rsq.contexts = [] → o = none) ∧ (s.rsq.contexts ≠ [] → o = some (.update, .restoreStep))
  epochs : a = 6 →
    let ready := ∃ e ∈ s.epu.sealQueue, sealEligible s e = true
    (¬ ready → s.epu.expiryQueue = [] → o = none) ∧
    (ready → s.epu.expiryQueue = [] ∨ s.epu.lastTurn = .walkStep → o = some (.update, .sn .sealOp)) ∧
    (s.epu.expiryQueue ≠ [] → ¬ ready ∨ s.epu.lastTurn = .sealOp → o = some (.update, .sn .walkStep))
  passes : a = 7 → ((∀ c w, ¬ HasReady s c w) → o = none) ∧
    ∀ c w, HasReady s c w → (∀ d v, HasReady s d v → turnsAway s c ≤ turnsAway s d) →
      o = some (if w = .evaluate then .lookup else .update, .dp c w)

/-- R137, R139, R142, R145, R152, R155, R171, R175: the commands that the running part takes at their arrival, without a
table turn. -/
inductive TakenAtOnce : Instr → Prop where
  | tick : TakenAtOnce .wallClockTick
  | join {h : HeadId} {frame : List Byte} {tag : Nat} : readHeadFrame frame = .join tag → TakenAtOnce (.join h frame)
  | leave {h : HeadId} {frame : List Byte} {incarnation tag : Nat} :
      readHeadFrame frame = .leave incarnation tag → TakenAtOnce (.leave h frame)
  | keep {h : HeadId} {frame : List Byte} : readHeadFrame frame = .keep → TakenAtOnce (.keep h frame)
  | headNotices {h : HeadId} {frame : List Byte} {incarnation tag count : Nat} :
      readHeadFrame frame = .noticeRead incarnation tag count → TakenAtOnce (.noticeRead (.head h) frame)
  | mgmtNotices {frame : List Byte} {tag count : Nat} :
      readManagementBytes frame = .noticeRead tag count → TakenAtOnce (.noticeRead .mgmt frame)
  | headRequest {h : HeadId} {frame : List Byte} {kind incarnation tag : Nat} {r : Option Request} :
      readHeadFrame frame = .request kind incarnation tag r → TakenAtOnce (.headRequestArrival h frame)
  | mgmtRequest {frame : MgmtFrame} {kind tag : Nat} {r : Option Request} :
      readManagementFrame frame = .request kind tag r → TakenAtOnce (.managementRequestArrival frame)
  | otherFrame {h : HeadId} {frame : List Byte} {kind : Nat} {i : Instr} : readHeadFrame frame = .timerOnly kind →
      i ∈ [Instr.join h frame, .leave h frame, .keep h frame, .noticeRead (.head h) frame, .headRequestArrival h frame] →
      TakenAtOnce i
  | detectExpiry {h : HeadId} : TakenAtOnce (.detectExpiry h)
  | frameSend : TakenAtOnce .frameSend
  | transmissionEnd : TakenAtOnce .transmissionEnd
  | accept {frame : List Byte} {id seq : Nat} {echo : Digest} :
      readGatewayFrame frame = .accept id seq echo → TakenAtOnce (.accept frame)
  | defer {frame : List Byte} {id seq : Nat} : readGatewayFrame frame = .defer id seq → TakenAtOnce (.defer frame)
  | refuse {frame : List Byte} {id seq : Nat} {reason : Byte} :
      readGatewayFrame frame = .refuse id seq reason → TakenAtOnce (.refuse frame)
  | ready {frame : List Byte} {id seq : Nat} : readGatewayFrame frame = .ready id seq → TakenAtOnce (.ready frame)
  | responseTimeout {c : ChanId} : TakenAtOnce (.responseTimeout c)
  | poolReadIssue : TakenAtOnce .poolReadIssue
  | poolReadCompletion {c : ChanId} {slot passId : Nat} {result : ReadResult} :
      TakenAtOnce (.poolReadCompletion c slot passId result)

/-! ## Due work of the clock unit -/

/-- R42: slot `k` of head `h` is OPEN with the reservation `r`. -/
def OpenSlot (s : State) (h : HeadId) (k : Nat) (r : Reservation) : Prop :=
  (slotOf s h k).reservation = some r ∧ r.state = .open_

/-- R31, R33: account `n` is OVER_SOFT with the grace deadline `d`. -/
def OverSoftAt (s : State) (n d : Nat) : Prop :=
  ∃ a p, look s.accounts n = some a ∧ a.body = .person p ∧ p.quota = .overSoft d

/-- R33, R54, R114: work of the clock unit that fell due at `d`, of its kind the first in order. A lapse is due when the
clock has reached its deadline, and the earliest deadline, lower head and lower slot come first. A grace lapse is due
besides only while the hold is off and the clock is set, and the earliest deadline and lower account come first. The window
event is due while the clock is set and the window given differs from the window state. The value `d` of a window event,
the clock at which the difference was found, is deduced (notes/assumptions/25.md); that of a grace lapse that was held
back, its deadline, is DESIGN CHOICE (notes/assumptions/51.md). -/
def DueAt (s : State) (d : Nat) : CkWork → Prop
  | .lapse h k g => ∃ r, OpenSlot s h k r ∧ (slotOf s h k).generation = g ∧ r.deadline = d ∧ d ≤ s.clock.now ∧
      ∀ i j q, OpenSlot s i j q → d < q.deadline ∨ (d = q.deadline ∧ (h < i ∨ (h = i ∧ k ≤ j)))
  | .grace n => s.clock.isSet = true ∧ s.settings.graceHold = false ∧ OverSoftAt s n d ∧ d ≤ s.clock.now ∧
      ∀ m e, OverSoftAt s m e → d < e ∨ (d = e ∧ n ≤ m)
  | .window => s.clock.isSet = true ∧ s.given ≠ s.clock.window ∧ s.clock.windowDue = some d

/-- R114: what a comparison of the window given with the window state leaves of the record `due` of a difference, in the
state `t` in which it is made (notes/assumptions/25.md). -/
structure WindowCompared (due : Option Nat) (t : State) : Prop where
  differs : t.clock.isSet = true → t.given ≠ t.clock.window → t.clock.windowDue = some (due.getD t.clock.now)
  agrees : t.clock.isSet = false ∨ t.given = t.clock.window → t.clock.windowDue = none

/-! ## Extents that become FREE -/

/-- The records of `s` whose extents are FREE in `t`. -/
def freedExtents (s t : State) : Table Extent := s.pool.extents.filter fun x => (look t.pool.extents x.1).isNone

/-- R6: F and the zone free counts have risen by the extents that became FREE. -/
structure FreedCounted (s t : State) : Prop where
  sizes : t.pool.capacity = s.pool.capacity ∧ t.pool.floor = s.pool.floor ∧
    t.pool.zoneFree.length = s.pool.zoneFree.length
  free : t.pool.free = s.pool.free + (freedExtents s t).length
  zones : ∀ z, z < s.pool.zoneFree.length → t.pool.zoneFree.getD z 0 =
    s.pool.zoneFree.getD z 0 + ((freedExtents s t).filter fun x => zoneOf s.pool x.1 = z).length

/-- R64: the held count of every volume has fallen by its extents that became FREE, and nothing else of it is changed. -/
def HeldFallen (s t : State) : Prop := ∀ v, look t.volumes v = (look s.volumes v).map fun V =>
  { V with held := V.held - ((freedExtents s t).filter fun x => volumeOf x.2 = v).length }

/-! ## Rotation and pins, said at once

The rules describe these as repetitions; here is what each comes to. -/

/-- R77: whether rotation may take a snapshot. -/
def mayRotate (p : Snapshot) : Bool := p.state = .live && p.pins = 0 && !p.expirePending

/-- R77: the epochs that a rotation check of a volume makes EXPIRING: of the snapshots that it may take, in ascending
order, as many as the LIVE snapshots exceed the keep count. -/
def rotationVictims (V : Volume) : List Nat :=
  ((V.catalogue.filter mayRotate).take ((V.catalogue.filter fun p => p.state = .live).length - V.keep)).map (·.epoch)

/-- R77: a volume after its rotation check. -/
def rotatedVolume (V : Volume) : Volume :=
  { V with catalogue := V.catalogue.map fun p =>
    if p.epoch ∈ rotationVictims V then { p with state := .expiring, expirePending := false } else p }

/-- R78: a volume after a pin is taken on epoch `e`. -/
def pinTaken (e : Nat) (V : Volume) : Volume :=
  { V with catalogue := V.catalogue.map fun p => if p.epoch = e then { p with pins := p.pins + 1 } else p }

/-- R78: a volume after a pin is dropped from epoch `e`, held by the record `p`, and the epochs that become EXPIRING by
it, in order: at the last pin the snapshot itself when its expire-pending flag is SET, and then those of a rotation
check. -/
def pinDropped (e : Nat) (p : Snapshot) (V : Volume) : Volume × List Nat :=
  let lowered := { V with catalogue := V.catalogue.map fun q => if q.epoch = e then { q with pins := q.pins - 1 } else q }
  let expired := { V with catalogue := V.catalogue.map fun q =>
    if q.epoch = e then { q with pins := q.pins - 1, state := .expiring, expirePending := false } else q }
  if p.pins = 1 then
    if p.expirePending then (rotatedVolume expired, e :: rotationVictims expired)
    else (rotatedVolume lowered, rotationVictims lowered)
  else (lowered, [])

/-- R76: the epochs of a catalogue are distinct. -/
abbrev EpochsDistinct (V : Volume) : Prop := (V.catalogue.map (·.epoch)).Nodup

/-! ## Releases -/

/-- R59: what a RELEASE finds at place `i` of its list: the index, birth epoch and ship epoch of a good extent, none
where it marks MISMATCH. An index is good at its first place only. -/
def goodPlace (s : State) (account volume : Nat) (extents : List Nat) (i : Nat) : Option (Nat × Nat × Nat) :=
  match extents[i]? with
  | none => none
  | some x =>
    if x ∈ extents.take i then none
    else match extentAt s.pool x with
      | some (.live v o b h) => if v = volume ∧ o = account then some (x, b, h) else none
      | _ => none

/-! ## Restores -/

/-- R105: an extent that a RELINK step relinks, with the volume, owner and birth epoch of its RETAINED record. -/
structure Relinked where
  extent : Nat
  volume : Nat
  owner  : Nat
  birth  : Nat
  deriving DecidableEq, Repr

/-- R104: what a RELINK step relinks at place `i` of those it takes from the cursor: a place marked HELD_RETAINED whose
extent is RETAINED and stands at no earlier such place. -/
def relinkedAt (s : State) (places : List Place) (i : Nat) : Option Relinked :=
  match places[i]? with
  | none => none
  | some p =>
    if p.mark ≠ .heldRetained ∨ ⟨p.extent, .heldRetained⟩ ∈ places.take i then none
    else match extentAt s.pool p.extent with
      | some (.retained v o b _ _ _ _) => some ⟨p.extent, v, o, b⟩
      | _ => none

/-- R104: place `i` after the step. -/
def settledAt (s : State) (places : List Place) (i : Nat) : Option Place :=
  (places[i]?).map fun p =>
    if p.mark = .heldRetained then ⟨p.extent, if (relinkedAt s places i).isSome then .relinked else .alreadyLive⟩ else p

/-- R13, R105: what place `i` gives the change journal: nothing when it is passed over, the end of a run when its extent
is LIVE already, and the BIRTH of a relinked extent. -/
def birthAt (s : State) (places : List Place) (i : Nat) : Option (Option LifeChange) :=
  match places[i]? with
  | none => none
  | some p =>
    if p.mark = .heldRetained then
      some ((relinkedAt s places i).map fun g => ⟨.birth, g.volume, g.extent, openEpoch s g.volume, none⟩)
    else none

/-- R107: what the end of a context sends with an outcome and marks: its reply, to a head only while that head is UP with
the incarnation recorded. -/
def restoreAnswer (s : State) (c : Context) (outcome : Code) (charge : Option ChargeResult) (places : List Place) :
    List Output :=
  let r : Reply := .restore ⟨c.id, outcome, charge, c.admitted, places⟩
  match c.submitter with
  | .mgmt => mgmtReply 0x15 c.tag r
  | .head h i => if (s.heads.get h).link = .up ∧ (s.heads.get h).incarnation = i then headReply 0x15 s h c.tag r else []

/-- R107: the heads after the end of a context: its tag has left use where its reply is sent to a head. -/
def answeredHead (c : Context) (h : HeadId) (H : Head) : Head :=
  match c.submitter with
  | .head g i => if g = h ∧ H.link = .up ∧ H.incarnation = i then { H with tags := H.tags.erase c.tag } else H
  | .mgmt => H

/-- R107, R171: the management link after the end of a context. -/
def answeredMgmt (c : Context) (M : Mlu) : Mlu :=
  match c.submitter with
  | .head .. => M
  | .mgmt => { M with tags := M.tags.erase c.tag }

/-! ## The table cursor -/

/-- R173, Table 11-3: the record `r` stands at position `p` of the table that the cursor selects. Of the two numbers of a
position only SNAPSHOT, whose position is a volume and an epoch, uses the second. -/
def StandsAt (s : State) (p : Nat × Nat) (r : CursorRecord) : Prop :=
  match s.mlu.cursorTable with
  | .account => p.2 = 0 ∧ ∃ a, look s.accounts p.1 = some a ∧ r = .account p.1 a
  | .volume => p.2 = 0 ∧ ∃ V, look s.volumes p.1 = some V ∧ r = .volume p.1 V
  | .snapshot => ∃ V z, look s.volumes p.1 = some V ∧ z ∈ V.catalogue ∧ z.epoch = p.2 ∧ r = .snapshot p.1 z
  | .extent => p.2 = 0 ∧ p.1 < s.pool.capacity ∧ r = .extent p.1 (extentAt s.pool p.1)
  | .journal => p.2 = 0 ∧ ∃ e ∈ s.journal.entries, e.seq = p.1 ∧ r = .journal e
  | .reservation => p.2 = 0 ∧ ∃ (h : HeadId) (k : Nat), k < 32 ∧ p.1 = 32 * h.val + k ∧ r = .reservation h.val k (slotOf s h k)
  | .channel => p.2 = 0 ∧ ∃ c : ChanId, p.1 = c.val ∧ r = .channel c (s.channels.get c)

/-! ## Seals -/

/-- R73, R74: what the waiters of a seal-queue entry are sent, in order of joining. -/
def sealAnswers (s : State) (waiters : List Waiter) (r : Reply) : List Output :=
  waiters.flatMap fun w => match w with
    | .head h i tag =>
      if (s.heads.get h).link = .up ∧ (s.heads.get h).incarnation = i then headReply 0x14 s h tag r else []
    | .mgmt tag => mgmtReply 0x14 tag r
    | .nightly => []

/-- R156: the tags of a head in use after the waiters of an entry have been answered. -/
def tagsAnswered (h : HeadId) (H : Head) (waiters : List Waiter) : List Nat :=
  waiters.foldl (fun tags w => match w with
    | .head g i tag => if g = h ∧ H.link = .up ∧ H.incarnation = i then tags.erase tag else tags
    | _ => tags) H.tags

/-- R171: the tags of the management link in use after the waiters of an entry have been answered. -/
def mgmtTagsAnswered (tags : List Nat) (waiters : List Waiter) : List Nat :=
  waiters.foldl (fun tags w => match w with
    | .mgmt tag => tags.erase tag
    | _ => tags) tags

/-! ## The start scan -/

/-- R133, Table 8-1, R116: channel `c` after power-on or RESTART: its settings kept, its staging slots, as many as the
split gives it, EMPTY, and every other item at its start value. -/
def startChannel (s : State) (c : ChanId) : Channel where
  state := .idle
  suspendPending := false
  pass := none
  queue := []
  batch := []
  outstanding := none
  deadline := none
  probeDue := none
  failures := 0
  condition := .none
  staging := List.replicate ((splitSlots s.settings.split).get c) .empty
  settings := (s.channels.get c).settings
  stats := ⟨0, 0, 0, 0, 0⟩
  passQueue := []

/-- R7, R9, R42, R78, R87, R111, R115, R132, R133, R138, R151, R165, R171, R173, R177: the state `t` in which a start
scan has begun, made from `s`: what is held in the part has its start values, and table memory is as it was. -/
structure ScanBegun (s t : State) (powerOn : Bool) : Prop where
  part : t.part = .starting powerOn
  pool : t.pool = s.pool
  journal : t.journal = s.journal
  settings : t.settings = s.settings
  accounts : ∀ n, look t.accounts n = (look s.accounts n).map fun a => { a with stats := ⟨0, 0, 0, 0, 0⟩ }
  volumes : ∀ v, look t.volumes v = (look s.volumes v).map fun V =>
    { V with catalogue := V.catalogue.map fun p => { p with pins := 0 } }
  heads : ∀ h, t.heads.get h = { s.heads.get h with
    link := .down, cleanup := none, detect := none, requests := [], tags := [], notices := [], missed := false,
    slots := List.replicate 32 ⟨0, none⟩ }
  mlu : t.mlu = ⟨[], [], [], false, .account, 1, 0⟩
  epu : t.epu = ⟨[], [], none, .walkStep⟩
  rsq : t.rsq = ⟨[], none⟩
  channels : ∀ c, t.channels.get c = startChannel s c
  reads : t.dpu = ⟨[], [], none, 3, 3⟩
  arbiter : t.arb.slotPointer = 0 ∧ t.arb.roundRobin = 8 ∧ t.arb.waiting = []
  window : t.clock.window = (if t.clock.isSet then t.given else .closed) ∧ t.clock.windowDue = none

/-- R82, steps 2 and 3: a snapshot before the rotation checks of a start scan. -/
def startSnapshot (p : Snapshot) : Snapshot :=
  match p.state, p.expirePending with
  | .live, true => { p with state := .expiring, expirePending := false, pins := 0 }
  | _, _ => { p with pins := 0 }

/-- R10, R82: a volume before the rotation check of a start scan that leaves it `held` extents. -/
def startVolume (held : Nat) (V : Volume) : Volume := { V with held := held, catalogue := V.catalogue.map startSnapshot }

/-- R82, step 4: one entry of a rebuilt expiry queue stands before another. -/
def queuedBefore (a b : Nat × Nat) : Prop := a.2 < b.2 ∨ (a.2 = b.2 ∧ a.1 < b.1)

/-- R10, R41, R82, R177: the state `t` in which the start scan has ended, made from `s`, in which it was in progress. -/
structure ScanEnded (s t : State) (powerOn : Bool) : Prop where
  part : t.part = .running
  /-- R10: RESERVED extents become FREE, every other extent keeps its record. -/
  extents : ∀ x, look t.pool.extents x = (look s.pool.extents x).filter fun e => !isReserved e
  sizes : t.pool.capacity = s.pool.capacity ∧ t.pool.floor = s.pool.floor
  free : t.pool.free = s.pool.capacity - t.pool.extents.length
  zones : t.pool.zoneFree.length = 64 ∧ ∀ z, z < 64 →
    t.pool.zoneFree.getD z 0 = zoneCovers s.pool z - zoneHeld t.pool z
  accounts : ∀ n, look t.accounts n = (look s.accounts n).map fun a =>
    { a with figures := { a.figures with pending := 0, hold := 0 }, stats := ⟨0, 0, 0, 0, 0⟩ }
  volumes : ∀ v, look t.volumes v = (look s.volumes v).map fun V => rotatedVolume (startVolume (heldCount t.pool v) V)
  /-- R82, steps 4 and 5: the rebuilt queue, and after it what the rotation checks expire, by volume number. -/
  queue : ∃ rebuilt, rebuilt.Pairwise queuedBefore ∧
    (∀ v e, (v, e) ∈ rebuilt ↔ ∃ V p, look s.volumes v = some V ∧ p ∈ V.catalogue ∧ p.epoch = e ∧
      (p.state = .expiring ∨ p.expirePending = true)) ∧
    t.epu.expiryQueue = rebuilt ++ s.volumes.flatMap fun x =>
      (rotationVictims (startVolume (heldCount t.pool x.1) x.2)).map fun e => (x.1, e)
  epu : t.epu = { s.epu with expiryQueue := t.epu.expiryQueue }
  notices : t.mlu = noticedMgmt
    (.startDone powerOn s.clock.isSet s.pool.capacity (reservedCount s.pool) t.epu.expiryQueue.length) s.mlu
  frame : t.journal = s.journal ∧ t.settings = s.settings ∧ t.clock = s.clock ∧ t.heads = s.heads ∧ t.rsq = s.rsq ∧
    t.channels = s.channels ∧ t.dpu = s.dpu ∧ t.pending = s.pending ∧ t.sent = []

/-! ## Invariants -/

/-- The tables are in canonical form, with the numbers that R18, R63 and R162 give them. -/
def TablesCanonical (s : State) : Prop :=
  Rising s.accounts ∧ (∀ n ∈ s.accounts.map Prod.fst, 1 ≤ n ∧ n ≤ 65535) ∧
  Rising s.volumes ∧ (∀ v ∈ s.volumes.map Prod.fst, v ≤ 63) ∧
  Rising s.pool.extents ∧
  Rising s.arb.waiting ∧ (∀ a ∈ s.arb.waiting.map Prod.fst, a ≤ 8)

/-- R164: whether a waiting operation comes before that of agent `a` with age `x` among aged ones. -/
def aheadOf (a x : Nat) (p : Nat × Waiting) : Bool := x < p.2.age || (p.2.age = x && p.1 < a)

/-- R166: an aged operation can still see at most as many grants to others as there are operations ahead of it, so that
no age passes 72. -/
def AgesBounded (s : State) : Prop :=
  Rising s.arb.waiting ∧ (∀ a ∈ s.arb.waiting.map Prod.fst, a ≤ 8) ∧
  ∀ p ∈ s.arb.waiting, 64 ≤ p.2.age → p.2.age + (s.arb.waiting.filter (aheadOf p.1 p.2.age)).length ≤ 72

/-- R8: an allocation cursor stands in its zone or just past it. -/
def CursorWell (p : Pool) (H : Head) : Prop := H.zone < 64 ∧ zoneFirst p H.zone ≤ H.position ∧ H.position ≤ zoneEnd p H.zone

/-- R5, R6: the pool figures count the extent table: F, and the free count of every zone. -/
def PoolCounted (s : State) : Prop :=
  minCapacity ≤ s.pool.capacity ∧ s.pool.capacity ≤ maxCapacity ∧
  Rising s.pool.extents ∧ (∀ x ∈ s.pool.extents.map Prod.fst, x < s.pool.capacity) ∧
  s.pool.free + s.pool.extents.length = s.pool.capacity ∧
  s.pool.zoneFree.length = 64 ∧
  (∀ z, z < 64 → s.pool.zoneFree.getD z 0 + zoneHeld s.pool z = zoneCovers s.pool z) ∧
  ∀ h, CursorWell s.pool (s.heads.get h)

/-- R12, R15, R17: the ring holds the entries from O to A − 1 in order, each under its sequence number, and at most
4,194,304 of them. -/
def JournalWell (s : State) : Prop :=
  s.journal.append = s.journal.oldest + s.journal.entries.length ∧ s.journal.entries.length ≤ 4194304 ∧
  ∀ (i : Nat) (e : JournalEntry), s.journal.entries[i]? = some e → e.seq = s.journal.oldest + i

/-- R162: while the part runs, no agent but CK that has something to present waits with nothing. -/
def AgentsPresent (s : State) : Prop :=
  s.part = .running → ∀ a, a < 8 → look s.arb.waiting a = none → Offers s a none

/-! ### Retention chains and held counts -/

/-- R83: `L` is the retention chain of volume `v`, head first: its records are the RETAINED extents of the volume, each
linked to its neighbours, with nondecreasing death epochs, none above the open epoch. -/
structure ChainOf (s : State) (v : Nat) (V : Volume) (L : List Nat) : Prop where
  ends : V.chainHead = L.head? ∧ V.chainTail = L.getLast? ∧ V.chainCount = L.length
  once : L.Nodup
  linked : ∀ (i x : Nat), L[i]? = some x → ∃ o b sh d, d ≤ V.openEpoch ∧
    look s.pool.extents x = some (.retained v o b sh d (if i = 0 then none else L[i - 1]?) L[i + 1]?)
  whole : ∀ x o b sh d p q, look s.pool.extents x = some (.retained v o b sh d p q) → x ∈ L
  order : ∀ (i j x y ox bx sx dx oy by_ sy dy : Nat) (px qx py qy : Option Nat), i ≤ j → L[i]? = some x → L[j]? = some y →
    look s.pool.extents x = some (.retained v ox bx sx dx px qx) →
    look s.pool.extents y = some (.retained v oy by_ sy dy py qy) → dx ≤ dy

/-- R83: extent `x` is RETAINED, and a snapshot of the catalogue, other than that of epoch `apart`, holds its content. -/
def HeldBySnapshot (s : State) (V : Volume) (apart : Option Nat) (x : Nat) : Prop :=
  ∀ v o b sh d p q, look s.pool.extents x = some (.retained v o b sh d p q) →
    ∃ z ∈ V.catalogue, b ≤ z.epoch ∧ z.epoch < d ∧ some z.epoch ≠ apart

/-- R87, R92, R93: the walk `k` on the chain `L` of its volume: `M` is what it has left to process, from its position to
its end marker. What it has processed and what joined the chain since is held by another snapshot than the walked one. -/
def WalkWell (s : State) (V : Volume) (k : Walk) (L : List Nat) : Prop :=
  ∃ P M A, L = P ++ M ++ A ∧ (k.finished = true ↔ M = []) ∧
    (M ≠ [] → k.position = M.head? ∧ k.endMarker = M.getLast?) ∧
    ∀ x, x ∈ P ∨ x ∈ A → HeldBySnapshot s V (some k.epoch) x

/-- R64, R76, R80, R83, R87: every extent lies on an ACTIVE volume, whose held count counts it; every catalogue is in
order below the open epoch, its EXPIRING records without pins; the expiry queue holds EXPIRING snapshots once each, the
walked one in front; and the retention chains are whole, with a snapshot that holds every RETAINED extent. -/
structure ChainsWell (s : State) : Prop where
  tables : TablesCanonical s
  counted : PoolCounted s
  active : ∀ x e, look s.pool.extents x = some e → ∃ V, look s.volumes (volumeOf e) = some V
  held : ∀ v V, look s.volumes v = some V → V.held = heldCount s.pool v
  catalogues : ∀ v V, look s.volumes v = some V →
    (V.catalogue.map (·.epoch)).Pairwise (· < ·) ∧
    ∀ p ∈ V.catalogue, p.epoch < V.openEpoch ∧ (p.state = .expiring → p.pins = 0 ∧ p.expirePending = false)
  queue : s.epu.expiryQueue.Nodup ∧ ∀ q ∈ s.epu.expiryQueue, ∃ V p,
    look s.volumes q.1 = some V ∧ p ∈ V.catalogue ∧ p.epoch = q.2 ∧ p.state = .expiring
  walk : ∀ k, s.epu.walk = some k → s.epu.expiryQueue.head? = some (k.volume, k.epoch)
  chains : ∀ v V, look s.volumes v = some V → ∃ L, ChainOf s v V L ∧ (∀ x ∈ L, HeldBySnapshot s V none x) ∧
    ∀ k, s.epu.walk = some k → k.volume = v → WalkWell s V k L

/-! ### Pins -/

/-- R78: the snapshots, by volume and epoch, that the restore contexts, the pass-queue entries and the passes name. -/
def namedSnapshots (s : State) : List (Nat × Nat) :=
  (s.rsq.contexts.map fun c => (c.volume, c.epoch)) ++
  four.flatMap fun c => (s.channels.get c).passQueue ++
    ((s.channels.get c).pass.map fun p => (p.volume, p.target)).toList

/-- R78: the pin count of every snapshot is the number of contexts, entries and passes that name it. What they name has a
record; a context has its number alone, a volume one entry in a queue, and an IDLE channel no pass. -/
structure PinsWell (s : State) : Prop where
  chains : ChainsWell s
  counted : ∀ v V p, look s.volumes v = some V → p ∈ V.catalogue → p.pins = (namedSnapshots s).count (v, p.epoch)
  named : ∀ q ∈ namedSnapshots s, ∃ V p, look s.volumes q.1 = some V ∧ p ∈ V.catalogue ∧ p.epoch = q.2
  once : (s.rsq.contexts.map (·.id)).Nodup ∧ ∀ c, ((s.channels.get c).passQueue.map Prod.fst).Nodup
  resting : ∀ c, (s.channels.get c).state = .idle → (s.channels.get c).pass = none
  held : s.part ≠ .running → namedSnapshots s = []

/-! ### Account figures -/

/-- R21: the number of extents of an owner that `kind` selects. -/
def ownedCount (p : Pool) (n : Nat) (kind : Extent → Bool) : Nat :=
  (p.extents.filter fun x => ownerOf x.2 = n && kind x.2).length

def isLive : Extent → Bool
  | .live .. => true
  | _ => false

def isRetained : Extent → Bool
  | .retained .. => true
  | _ => false

/-- R21: the extents that the restore contexts which target an account have admitted and not relinked or given back. -/
def heldForRestore (s : State) (n : Nat) : Nat := ((s.rsq.contexts.filter fun c => c.target = n).map (·.hold)).sum

/-- R22: the records of the members of a group. -/
def membersOf (s : State) (g : Nat) : List Account :=
  (s.accounts.map Prod.snd).filter fun a => parentOf a = some g

/-- R18: whether a number holds a PERSON account. -/
def IsPerson (s : State) (n : Nat) : Prop := ∃ a p, look s.accounts n = some a ∧ a.body = .person p

/-- R20, R21, R22, R42, R97, R103: the figures of every person count the extent table and the restore contexts, those of
every group are the sums of its members', and a group counts its members; the RESERVED extents are those that the OPEN
slots have not committed yet. -/
structure FiguresWell (s : State) : Prop where
  tables : TablesCanonical s
  counted : PoolCounted s
  owners : ∀ x e, look s.pool.extents x = some e → IsPerson s (ownerOf e)
  persons : ∀ n a p, look s.accounts n = some a → a.body = .person p →
    a.figures.used = ownedCount s.pool n isLive ∧ a.figures.pending = ownedCount s.pool n isReserved ∧
    a.figures.retained = ownedCount s.pool n isRetained ∧ (s.part = .running → a.figures.hold = heldForRestore s n) ∧
    ∀ g, p.parent = some g → isGroup s g = true
  groups : ∀ n a g, look s.accounts n = some a → a.body = .group g →
    a.figures = ⟨((membersOf s n).map (·.figures.used)).sum, ((membersOf s n).map (·.figures.pending)).sum,
      ((membersOf s n).map (·.figures.hold)).sum, ((membersOf s n).map (·.figures.retained)).sum⟩ ∧
    g.members = (membersOf s n).length
  contexts : (s.rsq.contexts.map (·.id)).Nodup ∧ (s.part ≠ .running → s.rsq.contexts = []) ∧
    ∀ c ∈ s.rsq.contexts, IsPerson s c.target ∧ (c.stage ≠ .relink → c.hold = 0) ∧
      (c.stage = .relink → c.hold = countMark .heldRetained (c.places.drop c.cursor))
  slots : ∀ h, (s.heads.get h).slots.length = 32 ∧ ∀ k r, OpenSlot s h k r →
    s.part = .running ∧ (uncommitted r).Nodup ∧ (uncommitted r).length = remainder r ∧
    ∀ x ∈ uncommitted r,
      look s.pool.extents x = some (.reserved r.volume r.account h.val k (slotOf s h k).generation)
  reserved : s.part = .running → ∀ x v o i k g, look s.pool.extents x = some (.reserved v o i k g) →
    ∃ (h : HeadId) (r : Reservation), h.val = i ∧ (slotOf s h k).generation = g ∧ OpenSlot s h k r ∧ x ∈ uncommitted r

/-- R135: a channel record holds together: the count stays between 0 and 3 and is 3 in STOPPED with RETRY_LIMIT only; a
condition is held in STOPPED only; a STOPPED channel has no frame outstanding. -/
def ChannelWell (x : Channel) : Prop :=
  x.failures ≤ 3 ∧ (x.failures = 3 → x.state = .stopped ∧ x.condition = .retryLimit) ∧
  (x.state ≠ .stopped → x.condition = .none) ∧ (x.state = .stopped → x.outstanding = none)

/-- R135, for the four channels. -/
def ChannelsWell (s : State) : Prop := ∀ c, ChannelWell (s.channels.get c)

/-- Table 9-1: the ranges of a head context. -/
def HeadBounded (H : Head) : Prop :=
  H.requests.length ≤ 16 ∧ H.notices.length ≤ 32 ∧ H.slots.length = 32 ∧ H.detectCode ≤ 7 ∧ H.incarnation ≤ 65535

/-- The numbers of things that the rules bound: R156, R160 and R171 (queues), R69 (seal queue), R96 (restore contexts),
R76 (catalogues), R138 (reads in flight), R175 (the wall clock). -/
def QueuesBounded (s : State) : Prop :=
  (∀ h, HeadBounded (s.heads.get h)) ∧
  s.mlu.requests.length ≤ 16 ∧ s.mlu.notices.length ≤ 32 ∧
  (s.epu.sealQueue.map (·.volume)).Nodup ∧ (∀ e ∈ s.epu.sealQueue, e.waiters.length ≤ 8) ∧
  s.rsq.contexts.length ≤ 16 ∧
  (∀ v V, look s.volumes v = some V → V.catalogue.length ≤ 64) ∧
  s.dpu.inFlight.length ≤ 16 ∧ s.clock.now ≤ clockMax

end Sys2Proof.Machine
end

