-- ==== Sys2Proof/Certificates/Slice0/Obligations.lean ====
section
/-! DEFINITION. The statements for the provers. Each says which rule of the manual it formalises. Where a statement
gives the next state as `{ s with … }`, every field not named there is unchanged: that is its frame. The arbiter of the
next state is left to `ArbiterAtEveryRequestTurn`, and is named as `t.arb` in the others. -/

open Sys2Proof Sys2Proof.Machine

/-! ## The step, the wire and the digest -/

/-- A step runs the command at the front of the queue on the state with the queue's rest. -/
def Obligations.StepRunsFront : Prop :=
  ∀ (c : Instr) (rest : List Instr) (s : State), s.pending = c :: rest → step s = exec c { s with pending := rest }

/-- R11, R34, R43, R72, R113, R121, R132, R134, R136, R151, R165, R167, R175: the values that the manual gives a part
whose table memory has never recorded a FORMAT, after a power-on with the clock unset; and the reset state has each
of the invariants that every step keeps. That the reset state is the one
after power-on is the model's choice (notes/assumptions/16.md). -/
def Obligations.ResetValues : Prop :=
  State.reset.pool.capacity = 1024 ∧ State.reset.pool.floor = 0 ∧ State.reset.pool.free = 1024 ∧
  (∀ x, extentAt State.reset.pool x = none) ∧
  State.reset.journal.append = 0 ∧ State.reset.journal.oldest = 0 ∧
  (∀ n, account? State.reset n = none) ∧ (∀ v, volume? State.reset v = none) ∧
  State.reset.settings.reservationHold = 300 ∧ State.reset.settings.poolSpacing = 10 ∧
  State.reset.settings.graceHold = false ∧ State.reset.settings.graceStart = 0 ∧
  State.reset.settings.windowOpen = 3600 ∧ State.reset.settings.windowClose = 21600 ∧
  State.reset.settings.split = 3 ∧ State.reset.settings.passCounter = 1 ∧
  State.reset.settings.day = ⟨[⟨0, .any⟩, ⟨1, .any⟩, ⟨2, .any⟩, ⟨3, .any⟩, ⟨4, .any⟩, ⟨5, .any⟩, ⟨6, .any⟩, ⟨7, .any⟩],
    [⟨8, .any⟩, ⟨4, .any⟩]⟩ ∧
  State.reset.settings.night = ⟨[⟨7, .any⟩, ⟨0, .any⟩, ⟨7, .lookup⟩, ⟨1, .any⟩, ⟨6, .any⟩, ⟨7, .any⟩, ⟨2, .any⟩, ⟨5, .any⟩,
    ⟨7, .lookup⟩, ⟨3, .any⟩], [⟨8, .any⟩, ⟨7, .update⟩]⟩ ∧
  State.reset.clock.window = .closed ∧ State.reset.arb.slotPointer = 0 ∧ State.reset.arb.roundRobin = 8 ∧
  (∀ c, (State.reset.channels.get c).settings = ⟨true, false, 10, 5, 600, false⟩ ∧
    (State.reset.channels.get c).state = .idle) ∧
  (∀ h, (State.reset.heads.get h).link = .down ∧ (State.reset.heads.get h).incarnation = 0 ∧
    (State.reset.heads.get h).detectCode = 3 ∧ (State.reset.heads.get h).barred = false ∧
    (State.reset.heads.get h).selectAccount = true ∧ (State.reset.heads.get h).selectSealed = true ∧
    (State.reset.heads.get h).zone = 16 * h.val ∧ (State.reset.heads.get h).position = zoneFirst State.reset.pool (16 * h.val)) ∧
  TablesCanonical State.reset ∧ AgesBounded State.reset ∧ PoolCounted State.reset ∧ ChannelsWell State.reset ∧
  QueuesBounded State.reset ∧ ChainsWell State.reset ∧ FiguresWell State.reset ∧ PinsWell State.reset ∧
  JournalWell State.reset ∧ AgentsPresent State.reset

/-- R179, R180: the envelope of every frame whose fields fit is read back whole. -/
def Obligations.EnvelopeRoundTrip : Prop :=
  ∀ e : Envelope, e.body.length < 256 ^ 4 → e.incarnation < 256 ^ 2 → e.tag < 256 ^ 2 → readEnvelope e.bytes = some e

/-- R156, R181, Table 12-2: the frame of every head-link request that fits its layout is read back as that request,
with its incarnation and tag. -/
def Obligations.HeadRequestRoundTrip : Prop :=
  ∀ (r : Request) (b : List Byte) (incarnation tag : Nat),
    requestBody? r = some b → r.fits = true → incarnation < 256 ^ 2 → tag < 256 ^ 2 →
    readHeadFrame (Envelope.bytes ⟨BitVec.ofNat 8 (requestKind r), 0, incarnation, tag, b⟩) =
      .request (requestKind r) incarnation tag (some r)

/-- R152, R180: a frame whose check differs, or whose number of bytes is not 14 plus its body length, changes no state on
any link, the arbiter's included; a frame of the management link given by its items changes none when R180 does not find
it good. R183: a good offsite frame of a part-side or unknown kind changes no state. That a good frame of a gateway kind
whose body has another length than its layout changes no state either is said by no rule: that clause is the model's
choice (DEDUCED, notes/assumptions/27.md). -/
def Obligations.BadFramesDiscarded : Prop :=
  (∀ (bytes : List Byte) (h : HeadId) (s : State), readEnvelope bytes = none →
    exec (.join h bytes) s = .next { s with sent := [] } ∧
    exec (.leave h bytes) s = .next { s with sent := [] } ∧
    exec (.keep h bytes) s = .next { s with sent := [] } ∧
    exec (.noticeRead (.head h) bytes) s = .next { s with sent := [] } ∧
    exec (.noticeRead .mgmt bytes) s = .next { s with sent := [] } ∧
    exec (.headRequestArrival h bytes) s = .next { s with sent := [] } ∧
    exec (.managementRequestArrival (.raw bytes)) s = .next { s with sent := [] }) ∧
  (∀ (kind : Byte) (tag : Nat) (r : Option Request) (s : State),
    exec (.managementRequestArrival (.items false kind tag r)) s = .next { s with sent := [] }) ∧
  ∀ (bytes : List Byte) (s : State),
    (∀ e, readEnvelope bytes = some e → (e.kind, e.body.length) ∉ [(0x90#8, 12), (0x91#8, 8), (0x92#8, 9), (0x93#8, 8)]) →
    exec (.accept bytes) s = .next { s with sent := [] } ∧
    exec (.defer bytes) s = .next { s with sent := [] } ∧
    exec (.refuse bytes) s = .next { s with sent := [] } ∧
    exec (.ready bytes) s = .next { s with sent := [] }

/-! ## The arbiter -/

/-- R165, R166: at the turn of every request but RESTART, and at every turn of RS, SN, DP and CK and every loss
cleanup, the slot pointer advances by one (from the last entry to 0), the round-robin pointer changes only when check 4
decided and then names the winner, the operation taken waits no more and every other waiting operation ages by one and
keeps its work. R168: a window event that changes the window state sets the slot pointer to 0.
R71, R98, R120, R157, R158, R162, R163, Table 10-1: at the end of each of these turns every agent but CK that waits
with nothing presents at age 0 what it has, in its class (`Offers`): a head its loss cleanup or else its front request,
MG its front request, RS a restore step, SN a seal or a walk step by turns, DP the work of the next channel in
round-robin order; one with nothing waits no more. The agents present so too at the end of every command that the
running part takes without a turn (`TakenAtOnce`) and of the start scan (R177), which leave the pointers, the ages and
CK as they are; a kept presentation becomes UPDATE where a loss begins (R158). R33, R54, R114, R163: at the end of its
own turn CK presents its first due work (`DueAt`), and nothing when none is due; what it presents when kinds fell due
at one value is free (notes/assumptions/2.md). No rule gives the value at which a window event falls due: that it is the
clock at which the difference was found is deduced (notes/assumptions/25.md); that a grace lapse that was held back falls
due at its deadline is the model's choice (notes/assumptions/51.md). The premise on the accounts is a part of
`TablesCanonical`. -/
def Obligations.ArbiterAtEveryRequestTurn : Prop :=
  let presented := fun (s t : State) (a : Nat) => Rising s.arb.waiting → ∀ b, b < 8 →
    b = a ∨ look s.arb.waiting b = none → ∃ o, Offers t b o ∧
      look t.arb.waiting b = o.map fun x => ⟨x.1, 0, x.2⟩
  let classKept := fun (t : State) (a : Nat) (w w' : Waiting) => w'.cls = w.cls ∨
    (w'.cls = .update ∧ ∃ h : HeadId, a = h.val ∧ (t.heads.get h).cleanup ≠ none)
  (∀ (i : Instr) (link : Link) (tag : Nat) (r : Request) (s : State) (byRoundRobin : Bool),
    i.taken = some (link, tag, r) → r ≠ .restart → Takes s link tag r → winner s = some (agentOf link, byRoundRobin) →
    ∃ t, exec i s = .next t ∧
      t.arb.slotPointer = nextPointer (activeSet s) s.arb.slotPointer ∧
      t.arb.roundRobin = (if byRoundRobin then agentOf link else s.arb.roundRobin) ∧
      (∀ a w, a ≠ agentOf link → look s.arb.waiting a = some w →
        ∃ w', look t.arb.waiting a = some w' ∧ w'.age = w.age + 1 ∧ w'.work = w.work ∧ classKept t a w w') ∧
      (Rising s.arb.waiting → ∀ w, look t.arb.waiting (agentOf link) = some w → w.age = 0) ∧
      presented s t (agentOf link)) ∧
  (∀ (i : Instr) (s : State),
    (TakenAtOnce i ∧ s.part = .running) ∨ (∃ powerOn, i = .startScanEnd ∧ s.part = .starting powerOn) →
    ∃ t, exec i s = .next t ∧
      t.arb.slotPointer = s.arb.slotPointer ∧ t.arb.roundRobin = s.arb.roundRobin ∧
      (∀ a w, look s.arb.waiting a = some w → ∃ w', look t.arb.waiting a = some w' ∧ w'.age = w.age ∧ w'.work = w.work ∧
        classKept t a w w') ∧
      (look s.arb.waiting 8 = none → look t.arb.waiting 8 = none) ∧
      ∀ a, a < 8 → look s.arb.waiting a = none → ∃ o, Offers t a o ∧
        look t.arb.waiting a = o.map fun x => ⟨x.1, 0, x.2⟩) ∧
  ∀ (i : Instr) (a : Nat) (s : State) (w : Waiting) (byRoundRobin : Bool),
    s.part = .running → winner s = some (a, byRoundRobin) → look s.arb.waiting a = some w →
    ((∃ h, i = .lossCleanup h ∧ a = h.val ∧ (s.heads.get h).cleanup ≠ none) ∨
      (i = .restoreStep ∧ a = 5 ∧ w.work = .restoreStep) ∨
      (i = .sealOperation ∧ a = 6 ∧ w.work = .sn .sealOp) ∨ (i = .walkStep ∧ a = 6 ∧ w.work = .sn .walkStep) ∨
      (∃ c, i = .passStart ∧ a = 7 ∧ w.work = .dp c .start) ∨ (∃ c, i = .evaluationStep ∧ a = 7 ∧ w.work = .dp c .evaluate) ∨
      (∃ c, i = .passCompletion ∧ a = 7 ∧ w.work = .dp c .complete) ∨ (i = .windowEvent ∧ a = 8 ∧ w.work = .ck .window) ∨
      (∃ h k g, i = .reservationLapse ∧ a = 8 ∧ w.work = .ck (.lapse h k g)) ∨
      (∃ n, i = .graceLapse ∧ a = 8 ∧ w.work = .ck (.grace n))) →
    ∃ t, exec i s = .next t ∧
      t.arb.slotPointer = (if i = .windowEvent ∧ s.given ≠ s.clock.window then 0
        else nextPointer (activeSet s) s.arb.slotPointer) ∧
      t.arb.roundRobin = (if byRoundRobin then a else s.arb.roundRobin) ∧
      (∀ b v, b ≠ a → look s.arb.waiting b = some v → look t.arb.waiting b = some { v with age := v.age + 1 }) ∧
      (Rising s.arb.waiting → ∀ v, look t.arb.waiting a = some v → v.age = 0) ∧
      presented s t a ∧
      (a = 8 → Rising s.arb.waiting → Rising t.accounts →
        ((∀ d v, ¬ DueAt t d v) → look t.arb.waiting 8 = none) ∧
        ((∃ d v, DueAt t d v) → ∃ d v, DueAt t d v ∧ (∀ e u, DueAt t e u → d ≤ e) ∧
          look t.arb.waiting 8 = some ⟨.update, 0, .ck v⟩))

/-- R164: the four checks of a grant in their order. An aged operation wins before every slot and priority entry,
whatever its class, the greatest age first and the lower agent number among equal ages. With none aged, the entry at the
slot pointer gives its agent the turn when its agent waits with a class that the qualifier takes; else the first such
entry of the priority list; else the first waiting agent in cyclic order after the last round-robin winner, whatever its
class. Every grant has a winner while an operation of agents 0 to 8 waits. A command of a turn
that goes to another agent, or of a request that is not the one presented, is not what happens then and changes nothing,
which is the model's choice (notes/assumptions/5.md). -/
def Obligations.GrantDecision : Prop :=
  (∀ (waiting : Table Waiting) (set : ArbSet) (pointer last a : Nat) (w : Waiting),
      Rising waiting → look waiting a = some w → 64 ≤ w.age →
      (∀ b v, look waiting b = some v → v.age < w.age ∨ (v.age = w.age ∧ a ≤ b)) →
      decideTurn waiting set pointer last = some (a, false)) ∧
  (∀ (waiting : Table Waiting) (set : ArbSet) (pointer last : Nat),
      Rising waiting → (∀ a w, look waiting a = some w → w.age < 64) →
      let named := fun e : ArbEntry => ∃ w, look waiting e.agent = some w ∧
        (e.qualifier = .any ∨ (e.qualifier = .update ∧ w.cls = .update) ∨ (e.qualifier = .lookup ∧ w.cls = .lookup))
      (∀ e, set.slots[pointer]? = some e → named e → decideTurn waiting set pointer last = some (e.agent, false)) ∧
      ((∀ e, set.slots[pointer]? = some e → ¬ named e) →
        (∀ before e after, set.priority = before ++ e :: after → (∀ d ∈ before, ¬ named d) → named e →
          decideTurn waiting set pointer last = some (e.agent, false)) ∧
        ((∀ e ∈ set.priority, ¬ named e) → ∀ i w, i < 9 → look waiting ((last + 1 + i) % 9) = some w →
          (∀ j, j < i → look waiting ((last + 1 + j) % 9) = none) →
          decideTurn waiting set pointer last = some ((last + 1 + i) % 9, true)))) ∧
  (∀ (waiting : Table Waiting) (set : ArbSet) (pointer last a : Nat) (w : Waiting),
      a ≤ 8 → look waiting a = some w →
      ∃ b v byRoundRobin, decideTurn waiting set pointer last = some (b, byRoundRobin) ∧ look waiting b = some v) ∧
  (∀ (i : Instr) (link : Link) (tag : Nat) (r : Request) (s : State), i.taken = some (link, tag, r) → ¬ Takes s link tag r →
      exec i s = .next { s with sent := [] }) ∧
  ∀ (i : Instr) (a : Nat) (s : State),
    ((∃ h : HeadId, i = .lossCleanup h ∧ a = h.val) ∨
      (i, a) ∈ [(Instr.restoreStep, 5), (.sealOperation, 6), (.walkStep, 6), (.passStart, 7), (.evaluationStep, 7),
        (.passCompletion, 7), (.windowEvent, 8), (.reservationLapse, 8), (.graceLapse, 8)]) → ¬ Granted s a →
      exec i s = .next { s with sent := [] }

/-! ## Admission (Chapter 2) -/

/-- R24: the retention charge is the product divided by 100 and rounded up; it is 0 at a retained count or percent of 0,
the retained count at a percent of 100, and 1,501 at 3,001 and 50 percent; it is computed on the record as it stands,
a person's or a group's, whenever use is. -/
def Obligations.RetentionChargeRule : Prop :=
  (∀ retained percent, retained * percent ≤ 100 * retentionCharge retained percent ∧
    100 * retentionCharge retained percent < retained * percent + 100) ∧
  (∀ percent, retentionCharge 0 percent = 0) ∧ (∀ retained, retentionCharge retained 0 = 0) ∧
  (∀ retained, retentionCharge retained 100 = retained) ∧ retentionCharge 3001 50 = 1501 ∧
  (∀ a : Account, standingUse a = a.figures.used + retentionCharge a.figures.retained a.percent ∧
    effectiveUse a = a.figures.used + a.figures.pending + a.figures.hold + retentionCharge a.figures.retained a.percent)

/-- R25, R26, R27, R28, R29: effective use and limit; the own, group and pool headrooms; the headroom is the least of the
terms present, and the code names the first term, in the order OWN_LIMIT, GROUP_LIMIT, POOL_LIMIT, that gives it. -/
def Obligations.AdmissionTerms : Prop :=
  (∀ (s : State) (a : Account) (p : Person),
      effectiveUse a = a.figures.used + a.figures.pending + a.figures.hold + retentionCharge a.figures.retained a.percent ∧
      (p.quota = .under → effectiveLimit p = p.hard) ∧ (∀ d, p.quota = .overSoft d → effectiveLimit p = p.hard) ∧
      (∀ soft, p.quota = .lapsed → p.soft = some soft → effectiveLimit p = soft) ∧
      (p.quota = .lapsed → p.soft = none → effectiveLimit p = p.hard) ∧
      (effectiveUse a ≤ effectiveLimit p → ownHeadroom a p + effectiveUse a = effectiveLimit p) ∧
      (effectiveLimit p ≤ effectiveUse a → ownHeadroom a p = 0) ∧
      (p.parent = none → groupHeadroom s p = none) ∧
      (∀ n G g, p.parent = some n → look s.accounts n = some G → G.body = .group g →
        (g.hard = none → groupHeadroom s p = none) ∧
        (∀ L, g.hard = some L → ∃ x, groupHeadroom s p = some x ∧
          (effectiveUse G ≤ L → x + effectiveUse G = L) ∧ (L ≤ effectiveUse G → x = 0))) ∧
      (p.service = true → poolHeadroom s p = s.pool.free) ∧
      (p.service = false → s.pool.floor ≤ s.pool.free → poolHeadroom s p + s.pool.floor = s.pool.free) ∧
      (p.service = false → s.pool.free ≤ s.pool.floor → poolHeadroom s p = 0)) ∧
  (∀ (own : Nat) (group pool : Option Nat),
      headroomOf own group pool ≤ own ∧ (∀ x, group = some x → headroomOf own group pool ≤ x) ∧
      (∀ x, pool = some x → headroomOf own group pool ≤ x) ∧
      (headroomOf own group pool = own ∨ group = some (headroomOf own group pool) ∨ pool = some (headroomOf own group pool)) ∧
      (limitingTerm own group pool = .ownLimit ↔ headroomOf own group pool = own) ∧
      (limitingTerm own group pool = .groupLimit ↔
        headroomOf own group pool ≠ own ∧ group = some (headroomOf own group pool)) ∧
      (limitingTerm own group pool = .poolLimit ↔
        headroomOf own group pool ≠ own ∧ group ≠ some (headroomOf own group pool)))

/-- R31, Table 2-6: the seven rows of the quota state table; a grace deadline beyond the upper end of the clock is
left out, since no rule gives its value (notes/assumptions/1.md). -/
def Obligations.QuotaTransitions : Prop :=
  ∀ (now standing : Nat) (p : Person),
    (standing ≤ softLimit p → nextQuota now p standing = .under) ∧
    (softLimit p < standing → p.quota = .under → 0 < p.grace → now + p.grace ≤ clockMax →
      nextQuota now p standing = .overSoft (now + p.grace)) ∧
    (softLimit p < standing → p.quota = .under → p.grace = 0 → nextQuota now p standing = .lapsed) ∧
    (∀ d, softLimit p < standing → p.quota = .overSoft d → nextQuota now p standing = .overSoft d) ∧
    (softLimit p < standing → p.quota = .lapsed → nextQuota now p standing = .lapsed)

/-! ## Settings and queries -/

/-- R7, R43, R72: SET_FLOOR, SET_RESERVATION_HOLD and SET_POOL_SPACING clamp, store and answer OK with the value
stored, and change nothing else. -/
def Obligations.PoolSettingsStored : Prop :=
  ∀ (s : State) (tag x : Nat),
    (Takes s .mgmt tag (.setFloor x) → ∃ t, exec (.setFloor tag x) s = .next t ∧
      t = { s with pool.floor := min x s.pool.capacity, mlu := tookMgmt s tag, arb := t.arb,
                   sent := mgmtReply 0x4B tag (.stored (min x s.pool.capacity)) }) ∧
    (Takes s .mgmt tag (.setReservationHold x) → ∃ t, exec (.setReservationHold tag x) s = .next t ∧
      t = { s with settings.reservationHold := min 3600 (max 10 x), mlu := tookMgmt s tag, arb := t.arb,
                   sent := mgmtReply 0x4C tag (.stored (min 3600 (max 10 x))) }) ∧
    (Takes s .mgmt tag (.setPoolSpacing x) → ∃ t, exec (.setPoolSpacing tag x) s = .next t ∧
      t = { s with settings.poolSpacing := min x 600, mlu := tookMgmt s tag, arb := t.arb,
                   sent := mgmtReply 0x51 tag (.stored (min x 600)) })

/-- R39, R81, R170, R172, Table 11-2: QUERY_ACCOUNT, QUERY_VOLUME, STATUS and QUERY_ARBITER answer with every item their
rules name, as it stands at their turn, the arbiter's after that turn's grant, and change no state but their own link's
queue. The first two are refused for an undefined account or volume. -/
def Obligations.QueriesReadOnly : Prop :=
  ∀ (s : State) (tag n : Nat),
    let accountItems := fun (r : Reply) =>
      (account? s n = none → r = .code .noAccount) ∧
      (∀ a p, account? s n = some a → a.body = .person p → r = .account
        { account := n, body := .person p, percent := a.percent, figures := a.figures
          charge := retentionCharge a.figures.retained a.percent
          use := a.figures.used + retentionCharge a.figures.retained a.percent
          terms := some ⟨ownHeadroom a p, groupHeadroom s p, poolHeadroom s p⟩ }) ∧
      (∀ a g, account? s n = some a → a.body = .group g → r = .account
        { account := n, body := .group g, percent := a.percent, figures := a.figures
          charge := retentionCharge a.figures.retained a.percent
          use := a.figures.used + a.figures.pending + a.figures.hold + retentionCharge a.figures.retained a.percent
          terms := none })
    let volumeItems := fun (r : Reply) =>
      (volume? s n = none → r = .code .noVolume) ∧
      (∀ V, volume? s n = some V → ∃ waiters, r = .volume
        { volume := n, openEpoch := V.openEpoch, lastSeal := V.lastSeal, keep := V.keep, spacing := V.spacing,
          nightly := V.nightly, channel := V.channel, shippedBase := V.shippedBase, shipMark := V.shipMark,
          needsRebase := V.needsRebase, held := V.held, chainCount := V.chainCount, catalogue := V.catalogue,
          waiters := waiters } ∧
        ((∀ e ∈ s.epu.sealQueue, e.volume ≠ n) → waiters = none) ∧
        (∀ e, s.epu.sealQueue.find? (fun d => d.volume = n) = some e → waiters = some e.waiters.length))
    let statusItems := fun (r : Reply) => ∃ left, r = .status
        { now := s.clock.now, clockSet := s.clock.isSet, capacity := s.pool.capacity, free := s.pool.free,
          floor := s.pool.floor, append := s.journal.append, oldest := s.journal.oldest,
          sealEntries := s.epu.sealQueue.length, expiring := s.epu.expiryQueue.length
          walk := s.epu.walk.map fun w => (w.volume, w.epoch, w.visited, w.freed)
          contexts := s.rsq.contexts.length, cancelling := (s.rsq.contexts.filter fun c => c.cancel).length
          window := s.clock.window, windowLeft := left, windowOpen := s.settings.windowOpen
          windowClose := s.settings.windowClose
          channels := s.channels.map fun x => ⟨x.state, x.condition, x.pass.map fun p => p.id⟩
          split := s.settings.split, inFlight := s.dpu.inFlight.length, passCounter := s.settings.passCounter
          heads := s.heads.map fun H =>
            ⟨H.link, H.incarnation, H.cleanup.map fun l => l.cause, H.requests.length, H.notices.length, H.barred⟩
          graceHold := s.settings.graceHold, graceStart := s.settings.graceStart
          reservationHold := s.settings.reservationHold, poolSpacing := s.settings.poolSpacing
          activeSet := match s.clock.window with | .open_ => .night | .closed => .day } ∧
      (s.clock.window = .closed ∨ s.given = .closed → left = 0) ∧
      (s.clock.window = .open_ → s.given = .open_ →
        left = (s.settings.windowClose + 86400 - s.clock.now % 86400) % 86400)
    let arbiterItems := fun (byRoundRobin : Bool) (r : Reply) => ∃ agents, r = .arbiter
        { day := s.settings.day, night := s.settings.night
          active := match s.clock.window with | .open_ => .night | .closed => .day
          slotPointer := if s.arb.slotPointer + 1 < (activeSet s).slots.length then s.arb.slotPointer + 1 else 0
          roundRobin := if byRoundRobin then 4 else s.arb.roundRobin, agents := agents } ∧
      agents.length = 9 ∧ (Rising s.arb.waiting → agents[4]? = some none) ∧
      ∀ a, a ≤ 8 → a ≠ 4 → agents[a]? = some ((look s.arb.waiting a).map fun w => (w.cls, w.age + 1))
    (Takes s .mgmt tag (.queryAccount n) → ∃ t r, exec (.queryAccount .mgmt tag n) s = .next t ∧
      t = { s with mlu := tookMgmt s tag, arb := t.arb, sent := mgmtReply 0x17 tag r } ∧ accountItems r) ∧
    (Takes s .mgmt tag (.queryVolume n) → ∃ t r, exec (.queryVolume .mgmt tag n) s = .next t ∧
      t = { s with mlu := tookMgmt s tag, arb := t.arb, sent := mgmtReply 0x18 tag r } ∧ volumeItems r) ∧
    (Takes s .mgmt tag .status → ∃ t r, exec (.status tag) s = .next t ∧
      t = { s with mlu := tookMgmt s tag, arb := t.arb, sent := mgmtReply 0x40 tag r } ∧ statusItems r) ∧
    (∀ rr, Takes s .mgmt tag .queryArbiter → winner s = some (4, rr) → ∃ t r, exec (.queryArbiter tag) s = .next t ∧
      t = { s with mlu := tookMgmt s tag, arb := t.arb, sent := mgmtReply 0x5C tag r } ∧ arbiterItems rr r) ∧
    (∀ h, TakesUp s h tag (.queryAccount n) → ∃ t r, exec (.queryAccount (.head h) tag n) s = .next t ∧
      t = { s with heads := s.heads.set h (tookHead tag (s.heads.get h)), arb := t.arb,
                   sent := headReply 0x17 s h tag r } ∧ accountItems r) ∧
    (∀ h, TakesUp s h tag (.queryVolume n) → ∃ t r, exec (.queryVolume (.head h) tag n) s = .next t ∧
      t = { s with heads := s.heads.set h (tookHead tag (s.heads.get h)), arb := t.arb,
                   sent := headReply 0x18 s h tag r } ∧ volumeItems r)

/-! ## Supply, clock and start-up (Chapters 1 and 11) -/

/-- R9: a loss of the main supply keeps table memory and the wall clock, and loses what is held in the part: links,
queues, slots, restores, the seal, expiry and pass queues, passes, pins, statistics, and every item of a channel record
but its settings (R133, Table 8-1). That what is lost takes its start values at the loss itself (links DOWN,
generations and pins 0, channels IDLE) is the model's choice (notes/assumptions/26.md).
R175: a tick moves the wall clock by one second, up to its upper end, on main or backup supply; without either supply
it does nothing. R114: on main supply it compares the window given with the window state: the clock of the first tick
that finds them to differ is recorded, and dropped when one finds them equal, which is deduced
(notes/assumptions/25.md). A loss of the backup supply changes only the record of it that the next power-on reads
(notes/assumptions/11.md). -/
def Obligations.SupplyAndClock : Prop :=
  (∀ s : State, ∃ t, exec .mainSupplyLoss s = .next t ∧ t.part = .off ∧ t.pending = s.pending ∧ t.sent = [] ∧
      t.clock.now = s.clock.now ∧ t.clock.isSet = s.clock.isSet ∧ t.clock.backupLost = s.clock.backupLost ∧
      t.pool = s.pool ∧ t.journal = s.journal ∧ t.settings = s.settings ∧
      (∀ n, look t.accounts n = (look s.accounts n).map fun a => { a with stats := ⟨0, 0, 0, 0, 0⟩ }) ∧
      (∀ v, look t.volumes v = (look s.volumes v).map fun V =>
        { V with catalogue := V.catalogue.map fun p => { p with pins := 0 } }) ∧
      (∀ h, t.heads.get h = { s.heads.get h with
        link := .down, cleanup := none, detect := none, requests := [], tags := [], notices := [], missed := false,
        slots := List.replicate 32 ⟨0, none⟩ }) ∧
      t.epu = ⟨[], [], none, .walkStep⟩ ∧ t.rsq = ⟨[], none⟩ ∧ t.dpu = ⟨[], [], none, 3, 3⟩ ∧
      t.arb.slotPointer = 0 ∧ t.arb.roundRobin = 8 ∧ t.arb.waiting = [] ∧
      t.clock.window = .closed ∧ t.clock.windowDue = none ∧
      (∀ c, t.channels.get c = startChannel s c) ∧ t.mlu = ⟨[], [], [], false, .account, 1, 0⟩) ∧
  (∀ s : State,
      (s.part ≠ .off ∨ s.clock.backupLost = false → ∃ t, exec .wallClockTick s = .next t ∧
        t = { s with clock := { s.clock with now := min (s.clock.now + 1) clockMax, windowDue := t.clock.windowDue },
                     arb := t.arb, sent := [] } ∧
        (s.part ≠ .off → WindowCompared s.clock.windowDue t) ∧
        (s.part = .off → t.clock.windowDue = s.clock.windowDue ∧ t.arb = s.arb)) ∧
      (s.part = .off → s.clock.backupLost = true → exec .wallClockTick s = .next { s with sent := [] }) ∧
      exec .backupSupplyLoss s = .next { s with clock.backupLost := true, sent := [] })

/-- R9, R115, R175, R177: power-on of a part without supply, and the turn of a RESTART, begin the start scan: what is
held in the part has its start values, the channel records those of Table 8-1 (R133), and table memory is as it was;
the last SN turn counts as spent on a walk step (R71). At power-on the clock and its flag keep their values, or are 0
and unset when the backup supply was lost; a RESTART keeps them and is answered OK.
R10, R41, R82, R177: the end of the scan frees the RESERVED extents, recounts, sets pending, hold and statistics to 0,
settles the snapshots, rebuilds the expiry queue and makes the rotation checks; START_DONE carries the cause, the
clock-set flag, N, the number of RESERVED extents freed and the length of the queue, and the part runs. During the scan a
NOTICE_READ of the management link is refused NOT_READY (R171), and every other head frame but JOIN, response, completion
and timeout is without effect. The premises
are `TablesCanonical` and that epochs are distinct (R76). That the stages that change table memory are made when the
scan ends, with START_DONE's count of the queue after the rotation checks, and the window state is set when it begins,
is the model's choice (notes/assumptions/13.md). So are that a power-on of a part with supply, and an event that cannot
come during the scan, do nothing (notes/assumptions/5.md), and that the NOT_READY reply to a NOTICE_READ carries the tag
of its frame (notes/assumptions/49.md). -/
def Obligations.StartScan : Prop :=
  (∀ s : State,
      (s.part = .off → ∃ t, exec .powerOn s = .next t ∧ ScanBegun s t true ∧ t.sent = [] ∧ t.pending = s.pending ∧
        t.clock.now = (if s.clock.backupLost then 0 else s.clock.now) ∧
        t.clock.isSet = (if s.clock.backupLost then false else s.clock.isSet)) ∧
      (s.part ≠ .off → exec .powerOn s = .next { s with sent := [] }) ∧
      (∀ tag, Takes s .mgmt tag .restart → ∃ t, exec (.restart tag) s = .next t ∧ ScanBegun s t false ∧
        t.sent = mgmtReply 0x41 tag (.code .ok) ∧ t.pending = s.pending ∧ t.clock.now = s.clock.now ∧
        t.clock.isSet = s.clock.isSet)) ∧
  (∀ (s : State) (powerOn : Bool), s.part = .starting powerOn → TablesCanonical s →
      (∀ v V, look s.volumes v = some V → EpochsDistinct V) →
      ∃ t, exec .startScanEnd s = .next t ∧ ScanEnded s t powerOn) ∧
  ∀ (s : State) (powerOn : Bool), s.part = .starting powerOn →
    (∀ frame tag count, readManagementBytes frame = .noticeRead tag count →
      exec (.noticeRead .mgmt frame) s = .next { s with sent := mgmtReply 0x04 tag (.code .notReady) }) ∧
    ∀ (i : Instr), ((∃ h frame, i ∈ [Instr.leave h frame, .keep h frame, .noticeRead (.head h) frame,
          .headRequestArrival h frame, .detectExpiry h]) ∨
        (∃ frame, i ∈ [Instr.accept frame, .defer frame, .refuse frame, .ready frame]) ∨ (∃ c, i = .responseTimeout c) ∨
        (∃ c k id result, i = .poolReadCompletion c k id result) ∨ i ∈ [.frameSend, .transmissionEnd, .poolReadIssue]) →
      exec i s = .next { s with sent := [] }

/-- R176: SET_CLOCK with the flag SET moves every absolute time by the difference, kept within 0 and the upper end: the
grace deadlines of OVER_SOFT accounts, the start of the grace hold, the deadlines of OPEN slots and not of LAPSED ones,
the last seal times, and the response deadlines and probe due times; seal times of snapshots stay. With the flag unset
nothing is moved and the flag becomes SET. R114: the window given by the new time is compared with the window state: a
difference is recorded with the clock at which a comparison first found it, and the record is dropped when they are
equal, which is deduced (notes/assumptions/25.md). That the start of the grace hold moves while the hold is off too is
deduced (notes/assumptions/29.md). -/
def Obligations.SetClockMovesDeadlines : Prop :=
  ∀ (s : State) (tag value : Nat), Takes s .mgmt tag (.setClock value) → ∃ t, exec (.setClock tag value) s = .next t ∧
    t.clock.now = min value clockMax ∧ t.clock.isSet = true ∧ t.clock.window = s.clock.window ∧
    t.clock.backupLost = s.clock.backupLost ∧ WindowCompared s.clock.windowDue t ∧
    t.part = s.part ∧ t.pool = s.pool ∧ t.journal = s.journal ∧ t.epu = s.epu ∧ t.rsq = s.rsq ∧ t.dpu = s.dpu ∧
    t.mlu = tookMgmt s tag ∧ t.pending = s.pending ∧
    t.sent = mgmtReply 0x43 tag (.clock s.clock.now (min value clockMax)
      (if s.clock.isSet then some ((min value clockMax : Nat) - (s.clock.now : Int)) else none)) ∧
    (s.clock.isSet = false → t.accounts = s.accounts ∧ t.volumes = s.volumes ∧ t.settings = s.settings ∧
      t.heads = s.heads ∧ t.channels = s.channels) ∧
    (s.clock.isSet = true →
      let moved := fun x => min (x + min value clockMax - s.clock.now) clockMax
      (∀ n a, look s.accounts n = some a → ∃ b, look t.accounts n = some b ∧ b.percent = a.percent ∧
        b.figures = a.figures ∧ b.stats = a.stats ∧
        (∀ p d, a.body = .person p → p.quota = .overSoft d → b.body = .person { p with quota := .overSoft (moved d) }) ∧
        (∀ p, a.body = .person p → (∀ d, p.quota ≠ .overSoft d) → b.body = a.body) ∧
        (∀ g, a.body = .group g → b.body = a.body)) ∧
      (∀ v, look t.volumes v = (look s.volumes v).map fun V => { V with lastSeal := V.lastSeal.map moved }) ∧
      t.settings = { s.settings with graceStart := moved s.settings.graceStart,
                                     poolLastSeal := s.settings.poolLastSeal.map moved } ∧
      (∀ h, t.heads.get h = { s.heads.get h with slots := (s.heads.get h).slots.map fun x => { x with
        reservation := x.reservation.map fun r =>
          match r.state with
          | .open_ => { r with deadline := moved r.deadline }
          | .lapsed => r } }) ∧
      (∀ c, t.channels.get c = { s.channels.get c with
        deadline := (s.channels.get c).deadline.map moved, probeDue := (s.channels.get c).probeDue.map moved }))

/-- R178, Table 11-5: a FORMAT is refused for its capacity, for a head link that is not DOWN or a pending cleanup, and
for a channel that is not IDLE or a read in flight, and then changes nothing. One that passes empties pool, journal,
volumes, queues, slots and contexts, sets the account figures and statistics to 0 and every person UNDER, resets the
head cursors and the pass counter, and keeps settings, clock, window, arbitration and channels. The management waiters
of the seal queue are answered CANCELLED with the volume (R69) and the contexts of the management link CANCELLED with
their marks (R111), and their tags and its own leave use. That the replies to the waiters, then those of the contexts,
then its own are sent in this order is the model's choice (notes/assumptions/18.md). -/
def Obligations.FormatEmptiesPool : Prop :=
  ∀ (s : State) (tag capacity floor : Nat), Takes s .mgmt tag (.format capacity floor) →
    (∃ t, exec (.format tag capacity floor) s = .next t ∧
      let refused := fun c => t = { s with mlu := tookMgmt s tag, arb := t.arb, sent := mgmtReply 0x42 tag (.code c) }
      ((capacity < 1024 ∨ 134217728 < capacity) → refused .badArgument) ∧
      (1024 ≤ capacity → capacity ≤ 134217728 →
        (∃ h, (s.heads.get h).link ≠ .down ∨ (s.heads.get h).cleanup ≠ none) → refused .notIdle) ∧
      (1024 ≤ capacity → capacity ≤ 134217728 →
        (∀ h, (s.heads.get h).link = .down ∧ (s.heads.get h).cleanup = none) →
        ((∃ c, (s.channels.get c).state ≠ .idle) ∨ s.dpu.inFlight ≠ []) → refused .notIdle)) ∧
    (1024 ≤ capacity → capacity ≤ 134217728 →
      (∀ h, (s.heads.get h).link = .down ∧ (s.heads.get h).cleanup = none) →
      (∀ c, (s.channels.get c).state = .idle) → s.dpu.inFlight = [] →
      ∃ t, exec (.format tag capacity floor) s = .next t ∧
        t.pool.capacity = capacity ∧ t.pool.floor = min floor capacity ∧ t.pool.free = capacity ∧ t.pool.extents = [] ∧
        t.pool.zoneFree = (List.range 64).map (zoneCovers t.pool) ∧
        t.journal = ⟨[], 0, 0⟩ ∧ t.volumes = [] ∧ t.rsq.contexts = [] ∧
        t.epu.sealQueue = [] ∧ t.epu.expiryQueue = [] ∧ t.epu.walk = none ∧ t.epu.lastTurn = s.epu.lastTurn ∧
        t.settings = { s.settings with poolLastSeal := none, passCounter := 1 } ∧
        (∀ n a, look s.accounts n = some a → ∃ b, look t.accounts n = some b ∧ b.figures = ⟨0, 0, 0, 0⟩ ∧
          b.stats = ⟨0, 0, 0, 0, 0⟩ ∧ b.percent = a.percent ∧
          (∀ p, a.body = .person p → b.body = .person { p with quota := .under }) ∧
          (∀ g, a.body = .group g → b.body = .group g)) ∧
        (∀ h, t.heads.get h = { s.heads.get h with
          zone := 16 * h.val, position := zoneFirst t.pool (16 * h.val), slots := List.replicate 32 ⟨0, none⟩ }) ∧
        (∀ c, t.channels.get c = { s.channels.get c with passQueue := [] }) ∧
        (let waiting := s.epu.sealQueue.flatMap fun e => e.waiters.filterMap fun w => match w with
           | .mgmt g => some (e.volume, g)
           | _ => none;
         let contexts := s.rsq.contexts.filter fun c => c.submitter = .mgmt;
         t.sent = waiting.flatMap (fun w => mgmtReply 0x14 w.2 (.sealCancelled w.1)) ++
           contexts.flatMap (fun c =>
             mgmtReply 0x15 c.tag (.restore ⟨c.id, .cancelled, c.charge, c.admitted, c.places⟩)) ++
           mgmtReply 0x42 tag (.formatted capacity (min floor capacity)) ∧
         t.mlu = { s.mlu with requests := s.mlu.requests.tail, tags :=
           (waiting.map Prod.snd ++ contexts.map (·.tag) ++ [tag]).foldl (fun l g => l.erase g) s.mlu.tags }) ∧
        t.rsq.service = none ∧
        t.clock = s.clock ∧ t.dpu = s.dpu ∧ t.part = s.part ∧ t.pending = s.pending ∧
        t.sent.getLast? = some (.reply .mgmt 0 tag 0x42 (.formatted capacity (min floor capacity))))

/-! ## The management link -/

/-- R171, R172, Table 11-1: the arrival of a management request: during a start scan STATUS is answered and every other
request refused NOT_READY; otherwise the checks in their order, and a request that passes joins the queue. That the
incarnation field of a management frame is not read is the model's choice (notes/assumptions/31.md). -/
def Obligations.ManagementArrival : Prop :=
  ∀ (s : State) (f : MgmtFrame) (kind tag : Nat) (r : Option Request),
    readManagementFrame f = .request kind tag r →
    (∀ p, s.part = .starting p → r = some .status → exec (.managementRequestArrival f) s =
      .next { s with sent := mgmtReply kind tag (.starting s.clock.now s.clock.isSet) }) ∧
    (∀ p, s.part = .starting p → r ≠ some .status → exec (.managementRequestArrival f) s =
      .next { s with sent := mgmtReply kind tag (.code .notReady) }) ∧
    (s.part = .running → ∃ t, exec (.managementRequestArrival f) s = .next t ∧
      (tag ∈ s.mlu.tags → t = { s with arb := t.arb, sent := mgmtReply kind tag (.code .tagInUse) }) ∧
      (tag ∉ s.mlu.tags → 16 ≤ s.mlu.requests.length → t = { s with arb := t.arb, sent := mgmtReply kind tag (.code .busy) }) ∧
      (tag ∉ s.mlu.tags → s.mlu.requests.length < 16 → r = none →
        t = { s with arb := t.arb, sent := mgmtReply kind tag (.code .badArgument) }) ∧
      (∀ q, tag ∉ s.mlu.tags → s.mlu.requests.length < 16 → r = some q →
        t = { s with mlu := { s.mlu with requests := s.mlu.requests ++ [⟨0, tag, q⟩], tags := s.mlu.tags ++ [tag] },
                     arb := t.arb, sent := [] }))

/-- R173, Table 11-3: the range of the position of each table, and the records that follow from a position: those that
stand at or after it, in order, without a gap (`StandsAt`). SET_CURSOR stores the table and a position in its range,
and refuses BAD_ARGUMENT otherwise, leaving the cursor.
R174: CURSOR_READ answers with at most 16 records from the cursor's position, and the end indication exactly when no
further record follows; without the clear flag it changes at most the position, which with the advance flag moves just
past the last record; with it, the statistics of the returned records alone become 0. That the epoch of the position is
0 for a table other than SNAPSHOT, and that a reply without records has no first position, is the model's choice
(notes/assumptions/20.md). The premises of the records are parts of `TablesCanonical`, `JournalWell` and
`ChainsWell`. -/
def Obligations.TableCursor : Prop :=
  (∀ (T : CursorTable) (position epoch : Nat), positionInRange T position epoch = true ↔ match T with
    | .account => 1 ≤ position ∧ position ≤ 65535
    | .volume => position ≤ 63
    | .snapshot => position ≤ 63 ∧ 1 ≤ epoch ∧ epoch ≤ 4294967294
    | .extent => position ≤ 134217727
    | .journal => position ≤ 281474976710655
    | .reservation => position ≤ 127
    | .channel => position ≤ 3) ∧
  (∀ (s : State) (n : Nat), TablesCanonical s → JournalWell s →
    (∀ v V, look s.volumes v = some V → (V.catalogue.map (·.epoch)).Pairwise (· < ·)) →
    let l := recordsFrom s n
    let before := fun (p q : Nat × Nat) => p.1 < q.1 ∨ (p.1 = q.1 ∧ p.2 < q.2)
    let reached := fun (p : Nat × Nat) => s.mlu.cursorPos < p.1 ∨
      (s.mlu.cursorPos = p.1 ∧ (s.mlu.cursorTable = .snapshot → s.mlu.cursorEpoch ≤ p.2))
    l.length ≤ n ∧ (l.map Prod.fst).Pairwise before ∧ (∀ x ∈ l, StandsAt s x.1 x.2 ∧ reached x.1) ∧
    ∀ p r, StandsAt s p r → reached p → (p, r) ∈ l ∨ (l.length = n ∧ ∀ x ∈ l, before x.1 p)) ∧
  (∀ (s : State) (tag position epoch : Nat) (table : Option CursorTable),
      Takes s .mgmt tag (.setCursor table position epoch) → ∃ t, exec (.setCursor tag table position epoch) s = .next t ∧
      (∀ T, table = some T → positionInRange T position epoch = true →
        t = { s with mlu := { tookMgmt s tag with
                       cursorTable := T, cursorPos := position, cursorEpoch := if T = .snapshot then epoch else 0 },
                     arb := t.arb, sent := mgmtReply 0x44 tag (.code .ok) }) ∧
      ((table = none ∨ ∃ T, table = some T ∧ positionInRange T position epoch = false) →
        t = { s with mlu := tookMgmt s tag, arb := t.arb, sent := mgmtReply 0x44 tag (.code .badArgument) })) ∧
  (∀ (s : State) (tag count : Nat) (advance clear : Bool), Takes s .mgmt tag (.cursorRead count advance clear) →
      ∃ t, exec (.cursorRead tag count advance clear) s = .next t ∧
        (∃ records, records = (recordsFrom s 17).take (min 16 (max 1 count)) ∧
          t.sent = mgmtReply 0x45 tag (.cursor ⟨s.mlu.cursorTable, (records.head?).map Prod.fst, records.map Prod.snd,
            (recordsFrom s 17).length ≤ min 16 (max 1 count)⟩) ∧
          (∀ n a, clear = true → CursorRecord.account n a ∈ records.map Prod.snd →
            (look t.accounts n).map (·.stats) = (look s.accounts n).map fun _ => ⟨0, 0, 0, 0, 0⟩) ∧
          (∀ n, (∀ a, CursorRecord.account n a ∉ records.map Prod.snd) → look t.accounts n = look s.accounts n) ∧
          (∀ c x, clear = true → CursorRecord.channel c x ∈ records.map Prod.snd →
            t.channels.get c = { s.channels.get c with stats := ⟨0, 0, 0, 0, 0⟩ }) ∧
          (∀ c, (∀ x, CursorRecord.channel c x ∉ records.map Prod.snd) → t.channels.get c = s.channels.get c) ∧
          ((advance = false ∨ records = []) →
            t.mlu = { s.mlu with requests := s.mlu.requests.tail, tags := s.mlu.tags.erase tag }) ∧
          (∀ r, advance = true → records.getLast? = some r → s.mlu.cursorTable ≠ .snapshot →
            t.mlu = { tookMgmt s tag with cursorPos := r.1.1 + 1 }) ∧
          (∀ r, advance = true → records.getLast? = some r → s.mlu.cursorTable = .snapshot →
            t.mlu = { tookMgmt s tag with cursorPos := r.1.1, cursorEpoch := r.1.2 + 1 })) ∧
        (∀ n, (look t.accounts n).map (fun a => (a.body, a.percent, a.figures)) =
          (look s.accounts n).map (fun a => (a.body, a.percent, a.figures))) ∧
        (clear = false → t.accounts = s.accounts ∧ t.channels = s.channels) ∧
        t.pool = s.pool ∧ t.volumes = s.volumes ∧ t.journal = s.journal ∧ t.heads = s.heads ∧ t.settings = s.settings ∧
        t.clock = s.clock ∧ t.epu = s.epu ∧ t.rsq = s.rsq ∧ t.dpu = s.dpu ∧ t.part = s.part ∧ t.pending = s.pending)

/-- R169, Table 10-4: LOAD_ARBITER refuses BAD_ARGUMENT an unknown set name, no or more than 16 slot entries, more than 9
priority entries, and an entry with an agent above 8 or an unknown qualifier; then the active set ACTIVE_SET; and
otherwise replaces the whole of the named set by the entries given, in their order. -/
def Obligations.ArbiterLoad : Prop :=
  ∀ (s : State) (tag : Nat) (name : Option SetName) (slots priority : List EntryRequest),
    Takes s .mgmt tag (.loadArbiter name slots priority) → ∃ t, exec (.loadArbiter tag name slots priority) s = .next t ∧
    let malformed := name = none ∨ slots = [] ∨ 16 < slots.length ∨ 9 < priority.length ∨
      ∃ e ∈ slots ++ priority, 8 < e.agent ∨ e.qualifier = none
    let written := fun (l : List EntryRequest) (m : List ArbEntry) => m.length = l.length ∧
      ∀ (i : Nat) (e : EntryRequest), l[i]? = some e → ∃ q, e.qualifier = some q ∧ m[i]? = some ⟨e.agent, q⟩
    (malformed →
      t = { s with mlu := tookMgmt s tag, arb := t.arb, sent := mgmtReply 0x5B tag (.code .badArgument) }) ∧
    (∀ n, ¬ malformed → name = some n →
      (n = activeName s →
        t = { s with mlu := tookMgmt s tag, arb := t.arb, sent := mgmtReply 0x5B tag (.code .activeSet) }) ∧
      (n ≠ activeName s → ∃ x : ArbSet, written slots x.slots ∧ written priority x.priority ∧
        t = { s with settings := { s.settings with
                       day := if n = .day then x else s.settings.day, night := if n = .night then x else s.settings.night },
                     mlu := tookMgmt s tag, arb := t.arb, sent := mgmtReply 0x5B tag (.code .ok) }))

/-! ## Head links (Chapter 9) -/

/-- R153: JOIN while the part runs, in DOWN or LOST and in UP, of a head that is barred, and during a start scan. A
rejoin leaves the cleanup pending with its first cause, and the head's agent waits with an UPDATE. That a cleanup that
was pending already keeps the first lost incarnation with its first cause is deduced (notes/assumptions/12.md), and
that the reply carries the tag of the frame is the model's choice (notes/assumptions/49.md), as is that the incarnation
field of a JOIN is not read (notes/assumptions/31.md). -/
def Obligations.JoinRaisesLink : Prop :=
  ∀ (s : State) (h : HeadId) (frame : List Byte) (tag : Nat), readHeadFrame frame = .join tag →
    let H := s.heads.get h
    (s.part = .running → H.barred = false → H.link ≠ .up → ∃ t, exec (.join h frame) s = .next t ∧
      t = { s with heads := s.heads.set h { H with
                     link := .up, incarnation := (H.incarnation + 1) % 65536, detect := some (2 ^ H.detectCode) },
                   arb := t.arb,
                   sent := [.reply (.head h) 0 tag 0x01 (.join ((H.incarnation + 1) % 65536) (2 ^ H.detectCode))] }) ∧
    (s.part = .running → H.barred = false → H.link = .up → ∃ t, exec (.join h frame) s = .next t ∧
      t = { s with heads := s.heads.set h { H with
                     link := .up, incarnation := (H.incarnation + 1) % 65536, detect := some (2 ^ H.detectCode),
                     requests := [], tags := [], notices := [], missed := false,
                     cleanup := some (H.cleanup.getD ⟨.rejoin, H.incarnation⟩) },
                   arb := t.arb,
                   sent := [.reply (.head h) 0 tag 0x01 (.join ((H.incarnation + 1) % 65536) (2 ^ H.detectCode))] } ∧
      ∃ w, look t.arb.waiting h.val = some w ∧ w.cls = .update ∧
        ∀ v, look s.arb.waiting h.val = some v → w.age = v.age) ∧
    (s.part = .running → H.barred = true → H.link ≠ .up → ∃ t, exec (.join h frame) s = .next t ∧
      t = { s with arb := t.arb, sent := [.reply (.head h) 0 tag 0x01 (.code .barred)] }) ∧
    (∀ p, s.part = .starting p →
      exec (.join h frame) s = .next { s with sent := [.reply (.head h) 0 tag 0x01 (.code .notReady)] })

/-- R152, R154, Table 9-2: LEAVE in UP with the present incarnation and with another, KEEP in UP, and both in DOWN or
LOST, where they are discarded; any other good frame that is not taken restarts the timer in UP and has no other
effect. R155, R158: the detect timer of an UP head expires: the link is LOST, the queues, tags and notices are emptied,
and the cleanup is pending with cause DETECT or the first cause; nothing else changes, and nothing changes where no
timer runs. That a pending cleanup keeps the first lost incarnation too is deduced (notes/assumptions/12.md). That the
reply to a LEAVE carries the tag of its frame (notes/assumptions/49.md), and a STALE refusal its incarnation
(notes/assumptions/48.md), is the model's choice, as is that the incarnation field of a KEEP is not read
(notes/assumptions/31.md). -/
def Obligations.LeaveKeepDetect : Prop :=
  (∀ (s : State) (h : HeadId) (frame : List Byte) (incarnation tag : Nat), s.part = .running →
      let H := s.heads.get h
      (readHeadFrame frame = .leave incarnation tag → ∃ t, exec (.leave h frame) s = .next t ∧
        (H.link = .up → incarnation = H.incarnation →
          t = { s with heads := s.heads.set h { H with
                         link := .down, detect := none, requests := [], tags := [], notices := [], missed := false,
                         cleanup := some (H.cleanup.getD ⟨.leave, H.incarnation⟩) },
                       arb := t.arb, sent := [.reply (.head h) incarnation tag 0x02 (.code .ok)] }) ∧
        (H.link = .up → incarnation ≠ H.incarnation →
          t = { s with heads := s.heads.set h { H with detect := some (2 ^ H.detectCode) },
                       arb := t.arb, sent := [.reply (.head h) incarnation tag 0x02 (.code .stale)] }) ∧
        (H.link ≠ .up → t = { s with arb := t.arb, sent := [] })) ∧
      (readHeadFrame frame = .keep → ∃ t, exec (.keep h frame) s = .next t ∧
        (H.link = .up →
          t = { s with heads := s.heads.set h { H with detect := some (2 ^ H.detectCode) }, arb := t.arb, sent := [] }) ∧
        (H.link ≠ .up → t = { s with arb := t.arb, sent := [] })) ∧
      (∀ kind, readHeadFrame frame = .timerOnly kind →
        ∀ i ∈ [Instr.join h frame, .leave h frame, .keep h frame, .noticeRead (.head h) frame, .headRequestArrival h frame],
          ∃ t, exec i s = .next t ∧
          (H.link = .up →
            t = { s with heads := s.heads.set h { H with detect := some (2 ^ H.detectCode) }, arb := t.arb, sent := [] }) ∧
          (H.link ≠ .up → t = { s with arb := t.arb, sent := [] }))) ∧
  (∀ (s : State) (h : HeadId), s.part = .running → (s.heads.get h).link = .up → (s.heads.get h).detect.isSome →
      ∃ t, exec (.detectExpiry h) s = .next t ∧
        t = { s with heads := s.heads.set h { s.heads.get h with
                       link := .lost, detect := none, requests := [], tags := [], notices := [], missed := false,
                       cleanup := some ((s.heads.get h).cleanup.getD ⟨.detect, (s.heads.get h).incarnation⟩) },
                     arb := t.arb, sent := [] } ∧
        ∃ w, look t.arb.waiting h.val = some w ∧ w.cls = .update) ∧
  ∀ (s : State) (h : HeadId), s.part = .running → ((s.heads.get h).link ≠ .up ∨ (s.heads.get h).detect = none) →
    ∃ t, exec (.detectExpiry h) s = .next t ∧ t = { s with arb := t.arb, sent := [] }

/-- R160, R171: NOTICE_READ answers with up to the count of notices, 1 for 0 and 8 for more than 8, from the front of
the queue with the missed indication, and removes them; another incarnation is STALE, and one in DOWN or LOST is
discarded (Table 9-2). R179, R180, R181: the frame of every reply carries the kind of its request, its incarnation and
tag, flag bit 0, flag bit 1 only for the missed indication of a NOTICE_READ reply, and its outcome code as the first
byte of its body; each notice is a kind byte, a length byte and contents. R181, Tables 12-3 to 12-5: the bodies of the
RESERVE, RELEASE and RESTORE replies, field by field; a generation, deadline or context id that a refused one does not
have is free, and that a refusal has the layout of its kind, with counts of 0, is deduced (notes/assumptions/40.md);
that a refused frame of kind 0x10 or 0x13 on the management link, where no rule gives these kinds, has it too is the
model's choice (notes/assumptions/40.md). What else the contents hold is left open (notes/assumptions/41.md). R184: the
EXTENT and JOURNAL records of a CURSOR_READ reply are laid out as Tables 12-7 and 12-8 give. R185: outcome codes have
the values of Table 12-9, and a CHANNEL record and the contents of CHANNEL_STOPPED hold the condition as Table 12-10
gives. That the records stand side by side, and that the notices stand directly after the outcome byte with no count,
is the model's choice (notes/assumptions/41.md), as are that the reply to a NOTICE_READ carries the tag of its frame
(notes/assumptions/49.md) and a STALE refusal its incarnation (notes/assumptions/48.md). -/
def Obligations.NoticesRead : Prop :=
  (∀ (link : Link) (incarnation tag kind : Nat) (r : Reply), ∃ e,
    (Output.reply link incarnation tag kind r).envelope? = some e ∧ e.kind = BitVec.ofNat 8 kind ∧
    e.incarnation = incarnation ∧ e.tag = tag ∧ e.body.head? = some (BitVec.ofNat 8 r.outcome.value) ∧
    (∀ l, r = .notices true l → e.flags = 3) ∧ ((∀ l, r ≠ .notices true l) → e.flags = 1) ∧
    (∀ missed l, r = .notices missed l → e.body = 0 :: l.flatMap fun n =>
      BitVec.ofNat 8 n.kind :: BitVec.ofNat 8 (noticeContents n).length :: noticeContents n) ∧
    (∀ x, r = .cursor x → ∃ before after, e.body = 0 :: (before ++ x.records.flatMap recordBytes ++ after))) ∧
  (∀ (link : Link) (incarnation tag : Nat),
    let laidOut := fun (kind : Nat) (r : Reply) (is : List Byte → Prop) =>
      ∃ e, (Output.reply link incarnation tag kind r).envelope? = some e ∧ is e.body
    (∀ (c : Code) (slot : Option (Nat × Nat)) (count headroom : Nat) (deadline : Option Nat) (runs : List Run),
      laidOut 0x10 (.reserve c slot count headroom deadline runs) fun b =>
        b.length = 15 + 6 * runs.length ∧ field b 0 1 = c.value ∧
        (∀ k g, slot = some (k, g) → field b 1 1 = k % 256 ∧ field b 2 1 = g % 256) ∧
        (slot = none → field b 1 1 = 255) ∧ field b 3 1 = runs.length % 256 ∧ field b 4 2 = count % 65536 ∧
        field b 6 4 = headroom % 4294967296 ∧ (∀ d, deadline = some d → field b 10 5 = d % 1099511627776) ∧
        ∀ (i : Nat) (r : Run), runs[i]? = some r →
          field b (15 + 6 * i) 4 = r.first % 4294967296 ∧ field b (19 + 6 * i) 2 = r.length % 65536) ∧
    (∀ c : Code, laidOut 0x10 (.code c) fun b =>
      b.length = 15 ∧ field b 0 1 = c.value ∧ field b 1 1 = 255 ∧ field b 3 1 = 0 ∧ field b 4 2 = 0 ∧ field b 6 4 = 0) ∧
    (∀ (n retained freed : Nat) (mismatch : BitVec 64), laidOut 0x13 (.released n retained freed mismatch) fun b =>
      b.length = 12 ∧ field b 0 1 = 0 ∧ field b 1 1 = n % 256 ∧ field b 2 1 = retained % 256 ∧
      field b 3 1 = freed % 256 ∧ ∀ i, i < 64 → (b.getD (4 + i / 8) 0).getLsbD (i % 8) = mismatch.getLsbD i) ∧
    (∀ c : Code, laidOut 0x13 (.code c) fun b => b.length = 12 ∧ field b 0 1 = c.value ∧ b.drop 1 = List.replicate 11 0) ∧
    (∀ x : RestoreReply, laidOut 0x15 (.restore x) fun b =>
      b.length = 28 + x.places.length ∧ field b 0 1 = x.outcome.value ∧ field b 1 1 = x.id % 256 ∧
      (x.charge = none → field b 2 1 = 0 ∧ field b 3 1 = 0 ∧ field b 4 4 = 0) ∧
      (∀ q, x.charge = some q → field b 2 1 = 1 ∧ field b 3 1 = (q.limiting.map Code.value).getD 0 ∧
        field b 4 4 = q.headroom % 4294967296) ∧
      field b 8 2 = x.admitted % 65536 ∧
      (∀ (i : Nat) (m : Mark), ([.heldLive, .inUse, .notHeld, .overQuota, .relinked, .alreadyLive, .heldRetained,
          .unclassified] : List Mark)[i]? = some m →
        field b (10 + 2 * i) 2 = (x.places.filter fun p => p.mark = m).length % 65536) ∧
      field b 26 2 = x.places.length % 65536 ∧
      ∀ (i : Nat) (p : Place), x.places[i]? = some p → ([.unclassified, .heldLive, .heldRetained, .notHeld, .inUse,
        .overQuota, .relinked, .alreadyLive] : List Mark)[field b (28 + i) 1]? = some p.mark) ∧
    ∀ c : Code, laidOut 0x15 (.code c) fun b => b.length = 28 ∧ field b 0 1 = c.value ∧ b.drop 2 = List.replicate 26 0) ∧
  (∀ (n : Nat) (e : Option Extent),
    let b := recordBytes (.extent n e)
    let birth := match e with | some (.live _ _ x _) => x | some (.retained _ _ x _ _ _ _) => x | _ => 0
    let ship := match e with | some (.live _ _ _ x) => x | some (.retained _ _ _ x _ _ _) => x | _ => 0
    let death := match e with | some (.retained _ _ _ _ x _ _) => x | _ => 0
    let pred : Option Nat := match e with | some (.retained _ _ _ _ _ x _) => x | _ => none
    let succ : Option Nat := match e with | some (.retained _ _ _ _ _ _ x) => x | _ => none
    b.length = 31 ∧ field b 0 4 = n % 4294967296 ∧
    field b 4 1 = (match e with | none => 0 | some (.reserved ..) => 1 | some (.live ..) => 2 | some (.retained ..) => 3) ∧
    field b 5 1 = (e.map volumeOf).getD 255 % 256 ∧ field b 6 2 = (e.map ownerOf).getD 0 % 65536 ∧
    (∀ v o h k g, e = some (.reserved v o h k g) →
      field b 8 1 = h % 256 ∧ field b 9 1 = k % 256 ∧ field b 10 1 = g % 256) ∧
    ((∀ v o h k g, e ≠ some (.reserved v o h k g)) → field b 8 3 = 0xFFFFFF) ∧
    field b 11 4 = birth % 4294967296 ∧ field b 15 4 = ship % 4294967296 ∧ field b 19 4 = death % 4294967296 ∧
    field b 23 4 = pred.getD 0xFFFFFFFF % 4294967296 ∧ field b 27 4 = succ.getD 0xFFFFFFFF % 4294967296) ∧
  (∀ j : JournalEntry,
    let b := recordBytes (.journal j)
    b.length = 22 ∧ field b 0 6 = j.seq % 281474976710656 ∧
    field b 6 1 = (match j.kind with | .birth => 0 | .death => 1) ∧ field b 7 1 = j.volume % 256 ∧
    field b 8 4 = j.first % 4294967296 ∧ field b 12 2 = j.count % 65536 ∧ field b 14 4 = j.epoch % 4294967296 ∧
    field b 18 4 = j.oldShip.getD 0 % 4294967296) ∧
  (∀ condition : Condition,
    let code : Byte := match condition with
      | .none => 0 | .noStaging => 1 | .journalLost => 2 | .refused _ => 3 | .retryLimit => 4 | .integrity => 5
      | .sourceFault => 6 | .cancelled => 7
    (∀ c x, x.condition = condition → ∃ before after, recordBytes (.channel c x) = before ++ [code] ++ after) ∧
    ∀ c p v, ∃ before after, noticeContents (.channelStopped c p v condition) = before ++ [code] ++ after) ∧
  ([.ok, .pending, .badArgument, .notReady, .busy, .tagInUse, .stale, .barred, .noAccount, .notPerson, .notGroup, .exists_,
    .groupsFull, .notEmpty, .activeSet, .ownLimit, .groupLimit, .poolLimit, .fragmented, .slotsFull, .unknownReservation,
    .tooLate, .noVolume, .full, .epochExhausted, .notLive, .contextsFull, .unknownRestore, .cancelled, .notNewer, .noEntry,
    .notIdle, .notStopped, .notResumable, .noPass] : List Code).map Code.value = List.range 35 ∧
  ∀ (s : State) (frame : List Byte) (incarnation tag count : Nat), s.part = .running →
    (∀ h, readHeadFrame frame = .noticeRead incarnation tag count → (s.heads.get h).link ≠ .up →
      ∃ t, exec (.noticeRead (.head h) frame) s = .next t ∧ t = { s with arb := t.arb, sent := [] }) ∧
    (∀ h, readHeadFrame frame = .noticeRead incarnation tag count → (s.heads.get h).link = .up →
      ∃ t, exec (.noticeRead (.head h) frame) s = .next t ∧
        let H := s.heads.get h
        (incarnation = H.incarnation →
          t = { s with heads := s.heads.set h { H with
                         notices := H.notices.drop (min 8 (max 1 count)), missed := false,
                         detect := some (2 ^ H.detectCode) },
                       arb := t.arb,
                       sent := [.reply (.head h) incarnation tag 0x04
                         (.notices H.missed (H.notices.take (min 8 (max 1 count))))] }) ∧
        (incarnation ≠ H.incarnation →
          t = { s with heads := s.heads.set h { H with detect := some (2 ^ H.detectCode) }, arb := t.arb,
                       sent := [.reply (.head h) incarnation tag 0x04 (.code .stale)] })) ∧
    (readManagementBytes frame = .noticeRead tag count → ∃ t, exec (.noticeRead .mgmt frame) s = .next t ∧
      t = { s with mlu := { s.mlu with notices := s.mlu.notices.drop (min 8 (max 1 count)), missed := false },
                   arb := t.arb, sent := mgmtReply 0x04 tag (.notices s.mlu.missed (s.mlu.notices.take (min 8 (max 1 count)))) })

/-- R156, Table 9-4: the arrival of a request in UP: the checks in their order, each with its refusal, and a request
that passes joins the end of the queue with its tag in use; in DOWN or LOST it is discarded (Table 9-2). Every good
frame restarts the detect timer (R152). That the envelope of a STALE refusal carries the request's incarnation is the
model's choice (notes/assumptions/48.md). -/
def Obligations.HeadRequestArrives : Prop :=
  ∀ (s : State) (h : HeadId) (frame : List Byte) (kind incarnation tag : Nat) (r : Option Request),
    readHeadFrame frame = .request kind incarnation tag r → s.part = .running →
    ((s.heads.get h).link ≠ .up →
      ∃ t, exec (.headRequestArrival h frame) s = .next t ∧ t = { s with arb := t.arb, sent := [] }) ∧
    ((s.heads.get h).link = .up →
    let H := s.heads.get h
    let refused := fun c t => t = { s with
      heads := s.heads.set h { H with detect := some (2 ^ H.detectCode) }, arb := t.arb,
      sent := [.reply (.head h) incarnation tag kind (.code c)] }
    ∃ t, exec (.headRequestArrival h frame) s = .next t ∧
      (incarnation ≠ H.incarnation → refused .stale t) ∧
      (incarnation = H.incarnation → tag ∈ H.tags → refused .tagInUse t) ∧
      (incarnation = H.incarnation → tag ∉ H.tags → 16 ≤ H.requests.length → refused .busy t) ∧
      (incarnation = H.incarnation → tag ∉ H.tags → H.requests.length < 16 → r = none → refused .badArgument t) ∧
      (∀ q, incarnation = H.incarnation → tag ∉ H.tags → H.requests.length < 16 → r = some q →
        t = { s with heads := s.heads.set h { H with
                       detect := some (2 ^ H.detectCode), requests := H.requests ++ [⟨incarnation, tag, q⟩],
                       tags := H.tags ++ [tag] },
                     arb := t.arb, sent := [] }))

/-- R6, R57, R64, R75, R109, R159: the loss cleanup of a head: its OPEN slots become FREE with their generation, LAPSED
ones stay, the RESERVED extents of the remainders become FREE and no other extent changes, F, the zone counts and the
held counts count them, pending falls at each owner and its group by the remainder of each slot, the head's waiters
leave the seal queue, its contexts are flagged, HEAD_DOWN is placed with the numbers of each and the flag is CLEAR;
nothing is appended to the journal. That a context flagged already is counted among those flagged is the model's choice
(notes/assumptions/44.md). -/
def Obligations.LossCleanupReturnsWork : Prop :=
  ∀ (s : State) (h : HeadId) (l : Loss), Granted s h.val → (s.heads.get h).cleanup = some l → Rising s.pool.extents →
    ∃ t, exec (.lossCleanup h) s = .next t ∧
      t.heads.get h = { s.heads.get h with cleanup := none, slots := (t.heads.get h).slots } ∧
      (∀ k, k < 32 → (slotOf t h k).generation = (slotOf s h k).generation ∧
        (slotOf t h k).reservation = (slotOf s h k).reservation.filter fun r => r.state = .lapsed) ∧
      (∀ x, look t.pool.extents x = none ∨ look t.pool.extents x = look s.pool.extents x) ∧
      (∀ x, look t.pool.extents x ≠ look s.pool.extents x →
        (∃ e, look s.pool.extents x = some e ∧ isReserved e = true) ∧
        ∃ k r, k < 32 ∧ (slotOf s h k).reservation = some r ∧ r.state = .open_ ∧ x ∈ uncommitted r) ∧
      (∀ k r x e, k < 32 → (slotOf s h k).reservation = some r → r.state = .open_ → x ∈ uncommitted r →
        extentAt s.pool x = some e → isReserved e = true → look t.pool.extents x = none) ∧
      FreedCounted s t ∧ HeldFallen s t ∧
      (let opened := ((List.range 32).filterMap fun k => (slotOf s h k).reservation).filter fun r => r.state = .open_;
       t.accounts = (opened.foldl (fun u r =>
         changeFigures r.account (fun f => { f with pending := f.pending - (r.granted - r.cursor) }) u) s).accounts) ∧
      t.epu = { s.epu with sealQueue := s.epu.sealQueue.map fun e =>
        { e with waiters := e.waiters.filter fun w => !waitsFor h w } } ∧
      t.rsq.service = s.rsq.service ∧
      (∀ e ∈ t.epu.sealQueue, ∀ w ∈ e.waiters, waitsFor h w = false) ∧
      t.epu.sealQueue.map (·.volume) = s.epu.sealQueue.map (·.volume) ∧
      t.rsq.contexts = s.rsq.contexts.map (fun c => if submittedBy h c then { c with cancel := true } else c) ∧
      (let opened := ((List.range 32).filterMap fun k => (slotOf s h k).reservation).filter fun r => r.state = .open_;
       t.mlu = noticedMgmt (.headDown h l.cause l.incarnation opened.length
         (opened.map fun r => r.granted - r.cursor).sum
         (s.epu.sealQueue.flatMap fun e => e.waiters.filter (waitsFor h)).length
         (s.rsq.contexts.filter (submittedBy h)).length) s.mlu) ∧
      t.journal = s.journal ∧ t.clock = s.clock ∧ t.settings = s.settings ∧ t.channels = s.channels ∧ t.dpu = s.dpu ∧
      t.part = s.part ∧ t.pending = s.pending ∧ t.sent = [] ∧ (∀ g, g ≠ h → t.heads.get g = s.heads.get g)

/-- R161: SET_HEADS is refused for an empty mask and for a zone start above 63 or naming an empty zone; otherwise it
stores the settings of every head in the mask, moves its cursor when a zone start is given, restarts the timer of an UP
head whose code changed, and takes a barred head that was UP or LOST to DOWN, an UP one with a LEAVE loss. That a cleanup
pending already keeps the first lost incarnation is deduced (notes/assumptions/12.md). -/
def Obligations.HeadsSet : Prop :=
  ∀ (s : State) (tag : Nat) (r : HeadsRequest), Takes s .mgmt tag (.setHeads r) →
    ∃ t, exec (.setHeads tag r) s = .next t ∧
    (r.mask = 0 ∨ (∃ z, r.zoneStart = some z ∧ (63 < z ∨ zoneCovers s.pool z = 0)) →
      t = { s with mlu := tookMgmt s tag, arb := t.arb, sent := mgmtReply 0x5A tag (.code .badArgument) }) ∧
    (r.mask ≠ 0 → (∀ z, r.zoneStart = some z → z ≤ 63 ∧ zoneCovers s.pool z ≠ 0) →
      t = { s with heads := t.heads, mlu := tookMgmt s tag, arb := t.arb,
                   sent := mgmtReply 0x5A tag (.headsStored
                     ⟨r.mask, min r.detectCode 7, r.barred, r.selectAccount, r.selectSealed, r.zoneStart⟩) } ∧
      ∀ h, let H := s.heads.get h
        let T := t.heads.get h
        (r.mask.getLsbD h.val = false → T = H) ∧
        (r.mask.getLsbD h.val = true →
          T.detectCode = min r.detectCode 7 ∧ T.barred = r.barred ∧ T.selectAccount = r.selectAccount ∧
          T.selectSealed = r.selectSealed ∧ T.incarnation = H.incarnation ∧ T.slots = H.slots ∧
          (r.zoneStart = none → T.zone = H.zone ∧ T.position = H.position) ∧
          (∀ z, r.zoneStart = some z → T.zone = z ∧ T.position = zoneFirst s.pool z) ∧
          (r.barred = true → T.link = .down ∧ (H.link ≠ .down → T.detect = none)) ∧
          (r.barred = true → H.link = .up → T.requests = [] ∧ T.tags = [] ∧ T.notices = [] ∧ T.missed = false ∧
            T.cleanup = some (H.cleanup.getD ⟨.leave, H.incarnation⟩)) ∧
          (r.barred = false ∨ H.link ≠ .up → T.requests = H.requests ∧ T.tags = H.tags ∧ T.notices = H.notices ∧
            T.missed = H.missed ∧ T.cleanup = H.cleanup) ∧
          (r.barred = false → T.link = H.link ∧
            T.detect = if H.link = .up ∧ H.detectCode ≠ min r.detectCode 7 then some (2 ^ min r.detectCode 7)
              else H.detect)))

/-! ## Reservations (Chapter 3) -/

/-- R29, R46, R47, R50, Table 3-3: a RESERVE refused before admission answers the first code of the table and changes
nothing; one whose headroom is below its clamped minimum answers the limiting term with the headroom, and one whose scan
collects less than it answers FRAGMENTED with both; each raises by one the refusal statistic of the account and of its
parent group, saturating (R40), and changes nothing else. -/
def Obligations.ReserveRefused : Prop :=
  ∀ (s : State) (h : HeadId) (tag account volume want minimum : Nat),
    TakesUp s h tag (.reserve account volume want minimum) →
    ∃ t, exec (.reserve h tag account volume want minimum) s = .next t ∧
    let refused := fun c => t = { s with
      heads := s.heads.set h (tookHead tag (s.heads.get h)), arb := t.arb,
      sent := headReply 0x10 s h tag (.reserve c none 0 0 none []) }
    let counted := fun (t : State) (account : Nat) (a : Account) (p : Person) => p.parent ≠ some account →
      let refusal := fun (b : Account) => { b with stats := { b.stats with refusals := min 4294967295 (b.stats.refusals + 1) } }
      look t.accounts account = some (refusal a) ∧
      ∀ m, m ≠ account → look t.accounts m =
        if p.parent = some m then (look s.accounts m).map refusal else look s.accounts m
    (want = 0 → refused .badArgument) ∧
    (want ≠ 0 → account? s account = none → refused .noAccount) ∧
    (∀ a g, want ≠ 0 → account? s account = some a → a.body = .group g → refused .notPerson) ∧
    (∀ a p, want ≠ 0 → account? s account = some a → a.body = .person p → volume? s volume = none →
      refused .noVolume) ∧
    (∀ a p V, want ≠ 0 → account? s account = some a → a.body = .person p → volume? s volume = some V →
      (∀ k, k < 32 → ∃ r, (slotOf s h k).reservation = some r ∧ r.state = .open_) → refused .slotsFull) ∧
    (∀ a p V k, want ≠ 0 → account? s account = some a → a.body = .person p → volume? s volume = some V →
      k < 32 → (∀ r, (slotOf s h k).reservation = some r → r.state = .lapsed) →
      let least := headroomOf (ownHeadroom a p) (groupHeadroom s p) (some (poolHeadroom s p))
      least < clampMinimum want minimum →
      counted t account a p ∧
      t = { s with accounts := t.accounts, heads := s.heads.set h (tookHead tag (s.heads.get h)), arb := t.arb,
                   sent := headReply 0x10 s h tag (.reserve
                     (limitingTerm (ownHeadroom a p) (groupHeadroom s p) (some (poolHeadroom s p))) none 0 least none []) }) ∧
    (∀ a p V k, want ≠ 0 → account? s account = some a → a.body = .person p → volume? s volume = some V →
      k < 32 → (∀ r, (slotOf s h k).reservation = some r → r.state = .lapsed) →
      let least := headroomOf (ownHeadroom a p) (groupHeadroom s p) (some (poolHeadroom s p))
      let scan := zoneScan s.pool (s.heads.get h).zone (s.heads.get h).position (min (clampWant want) least)
      clampMinimum want minimum ≤ least → scan.count < clampMinimum want minimum →
      counted t account a p ∧
      t = { s with accounts := t.accounts, heads := s.heads.set h (tookHead tag (s.heads.get h)), arb := t.arb,
                   sent := headReply 0x10 s h tag (.reserve .fragmented none scan.count least none []) })

/-- R21, R22, R40: a change of figures or statistics acts on a person and its parent group alike. R5: the zones. R45:
the clamps of the want and the minimum. R48 to R51: a RESERVE that is admitted and whose scan finds the minimum: the
lowest FREE slot of the head, or its lowest LAPSED one, becomes OPEN with its generation raised by one modulo 256 and
the deadline of the hold; every extent of the runs becomes RESERVED under it; pending rises by the count and the grant
statistics by one, at the account and its group (R21, R22, R40); F and the zone counts fall; the cursor stands just
past the last extent; the request leaves the queue with its tag; the journal and every other slot and extent stay. A
deadline beyond the upper end of the clock is left out, since no rule gives its value (notes/assumptions/1.md).
R48, R49: the zone scan collects the FREE extents in the order of the rule without passing one over, at most 8 runs and
`g` extents; it ends early at either number only; a run lies in one zone and ends only where the rule ends it. R51: the
slot is the lowest FREE one, or with none FREE the lowest LAPSED one. -/
def Obligations.ReserveGranted : Prop :=
  (∀ (s : State) (n m : Nat) (a : Account) (p : Person) (f : Figures → Figures) (g : Stats → Stats),
    look s.accounts n = some a → a.body = .person p → p.parent ≠ some n →
    changeFigures n f s = { s with accounts := (changeFigures n f s).accounts } ∧
    look (changeFigures n f s).accounts m = (if m = n ∨ p.parent = some m
      then (look s.accounts m).map fun b => { b with figures := f b.figures } else look s.accounts m) ∧
    look (changeStats n g s).accounts m = (if m = n ∨ p.parent = some m
      then (look s.accounts m).map fun b => { b with stats := g b.stats } else look s.accounts m)) ∧
  (∀ (p : Pool) (z : Nat), let Z := (p.capacity + 63) / 64
    zoneFirst p z = z * Z ∧ zoneEnd p z = min ((z + 1) * Z) p.capacity ∧ zoneCovers p z = zoneEnd p z - zoneFirst p z ∧
    (p.capacity ≤ z * Z → zoneCovers p z = 0) ∧ (1024 ≤ p.capacity → z ≤ 60 → 0 < zoneCovers p z) ∧
    ∀ x, x < p.capacity → (zoneOf p x = z ↔ zoneFirst p z ≤ x ∧ x < zoneEnd p z)) ∧
  (∀ want minimum : Nat, (256 < want → clampWant want = 256) ∧ (want ≤ 256 → clampWant want = want) ∧
    let m := if minimum = 0 then 1 else minimum
    (m ≤ clampWant want → clampMinimum want minimum = m) ∧
    (clampWant want < m → clampMinimum want minimum = clampWant want)) ∧
  (∀ (s : State) (h : HeadId) (g : Nat), PoolCounted s → 0 < g →
    let p := s.pool
    let H := s.heads.get h
    let part := fun (a b : Nat) => (List.range (b - a)).map (a + ·)
    let order := part H.position (zoneEnd p H.zone) ++
      ((List.range 63).flatMap fun i => part (zoneFirst p ((H.zone + 1 + i) % 64)) (zoneEnd p ((H.zone + 1 + i) % 64))) ++
      part (zoneFirst p H.zone) H.position
    let free := order.filter fun x => extentAt p x = none
    let scan := zoneScan p H.zone H.position g
    let runs := scan.runs.reverse
    scan.count = (runExtents runs).length ∧ scan.count ≤ g ∧ runs.length ≤ 8 ∧ runExtents runs <+: free ∧
    (scan.count < g → runs.length < 8 → runExtents runs = free) ∧
    ∀ r ∈ runs, 1 ≤ r.length ∧ ∃ z, z < 64 ∧ zoneFirst p z ≤ r.first ∧ r.first + r.length ≤ zoneEnd p z ∧
      (r.first + r.length = zoneEnd p z ∨ (z = H.zone ∧ r.first + r.length = H.position) ∨
        extentAt p (r.first + r.length) ≠ none ∨ (scan.count = g ∧ runs.getLast? = some r))) ∧
  (∀ (s : State) (h : HeadId),
    (∀ k, k < 32 → (slotOf s h k).reservation = none →
      (slotOf s h (grantSlot s h)).reservation = none ∧ grantSlot s h ≤ k) ∧
    (∀ k r, (∀ j, j < 32 → (slotOf s h j).reservation ≠ none) → k < 32 → (slotOf s h k).reservation = some r →
      r.state = .lapsed →
      grantSlot s h ≤ k ∧ ∃ q, (slotOf s h (grantSlot s h)).reservation = some q ∧ q.state = .lapsed)) ∧
  ∀ (s : State) (h : HeadId) (tag account volume want minimum k : Nat) (a : Account) (p : Person) (V : Volume),
    TakesUp s h tag (.reserve account volume want minimum) → want ≠ 0 →
    account? s account = some a → a.body = .person p → volume? s volume = some V →
    k = grantSlot s h → k < (s.heads.get h).slots.length →
    (∀ r, (slotOf s h k).reservation = some r → r.state = .lapsed) →
    s.clock.now + s.settings.reservationHold ≤ clockMax →
    let least := headroomOf (ownHeadroom a p) (groupHeadroom s p) (some (poolHeadroom s p))
    let scan := zoneScan s.pool (s.heads.get h).zone (s.heads.get h).position (min (clampWant want) least)
    let generation := ((slotOf s h k).generation + 1) % 256
    clampMinimum want minimum ≤ least → clampMinimum want minimum ≤ scan.count → k < 32 →
    ∃ t, exec (.reserve h tag account volume want minimum) s = .next t ∧
      t.sent = headReply 0x10 s h tag (.reserve .ok (some (k, generation)) scan.count least
        (some (s.clock.now + s.settings.reservationHold)) scan.runs.reverse) ∧
      slotOf t h k = ⟨generation, some ⟨.open_, account, volume, scan.runs.reverse, scan.count, 0,
        s.clock.now + s.settings.reservationHold⟩⟩ ∧
      (∀ j, j ≠ k → slotOf t h j = slotOf s h j) ∧ (∀ g, g ≠ h → t.heads.get g = s.heads.get g) ∧
      (∀ x ∈ runExtents scan.runs.reverse,
        look t.pool.extents x = some (.reserved volume account h.val k generation)) ∧
      (∀ x, x ∉ runExtents scan.runs.reverse → look t.pool.extents x = look s.pool.extents x) ∧
      (runExtents scan.runs.reverse).length = scan.count ∧
      (p.parent ≠ some account →
        let granted := fun (b : Account) => { b with
          figures := { b.figures with pending := b.figures.pending + scan.count },
          stats := { b.stats with
            grants := min 4294967295 (b.stats.grants + 1),
            shortGrants := if scan.count < clampWant want then min 4294967295 (b.stats.shortGrants + 1)
              else b.stats.shortGrants } }
        look t.accounts account = some (granted a) ∧
        ∀ m, m ≠ account → look t.accounts m =
          if p.parent = some m then (look s.accounts m).map granted else look s.accounts m) ∧
      t.pool.capacity = s.pool.capacity ∧ t.pool.floor = s.pool.floor ∧ t.pool.free = s.pool.free - scan.count ∧
      t.pool.zoneFree.length = s.pool.zoneFree.length ∧
      (∀ z, t.pool.zoneFree.getD z 0 = s.pool.zoneFree.getD z 0 -
        ((runExtents scan.runs.reverse).filter fun x => zoneOf s.pool x = z).length) ∧
      t.heads.get h = { tookHead tag (s.heads.get h) with
        slots := (t.heads.get h).slots, zone := (t.heads.get h).zone, position := (t.heads.get h).position } ∧
      (∀ v, v ≠ volume → look t.volumes v = look s.volumes v) ∧
      look t.volumes volume = some { V with held := V.held + scan.count } ∧
      (∀ r, scan.runs.head? = some r → (t.heads.get h).position = r.first + r.length ∧
        (t.heads.get h).zone = zoneOf s.pool (r.first + r.length - 1)) ∧
      t.journal = s.journal ∧ t.clock = s.clock ∧ t.settings = s.settings ∧ t.mlu = s.mlu ∧ t.epu = s.epu ∧
      t.rsq = s.rsq ∧ t.channels = s.channels ∧ t.dpu = s.dpu ∧ t.part = s.part ∧ t.pending = s.pending

/-- R44, R52, Table 3-2: a COMMIT of an OPEN reservation: the next extents in run order, the count clamped to the
remainder, become LIVE in the open epoch with their volume and owner, every other extent stays; pending falls and used
rises by the count; BIRTH entries are appended for them in run order; the slot advances, or becomes FREE with its
generation at the last one; F and the zone counts stay; the quota state of the account is that of Table 2-6 on its new
standing use (R31), a change of it sends ACCOUNT_STATE to the management link and to every UP head that selects the kind
(R32), and no other record's settings or state change. A slot or
generation that names no OPEN reservation is answered by Table 3-2 and changes nothing.
R14: the changes of an operation are appended in runs: a change joins the run of the one just before it exactly under the
six conditions, and an extent that is not changed ends a run.
R15, R16, R17: an append stores the entry with sequence number A; in a full ring it overwrites the oldest one and stops,
with JOURNAL_LOST and needs-rebase, each channel whose DELTA pass stands on it; at 2 to the 48th it renumbers first.
That several JOURNAL_LOST notices of one append join the management queue lower channel first is the model's choice
(notes/assumptions/17.md). -/
def Obligations.CommitMakesLive : Prop :=
  (∀ (s : State) (h : HeadId) (tag slot generation count : Nat), TakesUp s h tag (.commit slot generation count) →
    ∃ t, exec (.commit h tag slot generation count) s = .next t ∧
    let answered := fun c => t = { s with
      heads := s.heads.set h (tookHead tag (s.heads.get h)), arb := t.arb, sent := headReply 0x11 s h tag (.code c) }
    (count = 0 → answered .badArgument) ∧
    (count ≠ 0 → 31 < slot → answered .unknownReservation) ∧
    (count ≠ 0 → slot ≤ 31 → (slotOf s h slot).reservation = none → answered .unknownReservation) ∧
    (∀ r, count ≠ 0 → slot ≤ 31 → (slotOf s h slot).reservation = some r → (slotOf s h slot).generation ≠ generation →
      answered .unknownReservation) ∧
    (∀ r, count ≠ 0 → slot ≤ 31 → (slotOf s h slot).reservation = some r → (slotOf s h slot).generation = generation →
      r.state = .lapsed → answered .tooLate) ∧
    (∀ r, count ≠ 0 → slot ≤ 31 → (slotOf s h slot).reservation = some r → (slotOf s h slot).generation = generation →
      r.state = .open_ →
      let k := min count (r.granted - r.cursor)
      let taken := (uncommitted r).take k
      t.sent = headReply 0x11 s h tag (.committed k (r.granted - r.cursor - k)) ∧
      (∀ x v o hd sl g, x ∈ taken → extentAt s.pool x = some (.reserved v o hd sl g) →
        look t.pool.extents x = some (.live v o (openEpoch s r.volume) (openEpoch s r.volume))) ∧
      (∀ x, x ∉ taken → look t.pool.extents x = look s.pool.extents x) ∧
      t.pool = { s.pool with extents := t.pool.extents } ∧
      slotOf t h slot = (if r.cursor + k = r.granted then ⟨generation, none⟩
        else ⟨generation, some { r with cursor := r.cursor + k }⟩) ∧
      (∀ j, j ≠ slot → slotOf t h j = slotOf s h j) ∧
      let u := appendChanges (taken.map fun x => some ⟨.birth, r.volume, x, openEpoch s r.volume, none⟩) s
      t.journal = u.journal ∧ t.channels = u.channels ∧ t.volumes = u.volumes ∧
      (∀ n, figuresOf t n = figuresOf (changeFigures r.account
        (fun f => { f with pending := f.pending - k, used := f.used + k }) s) n) ∧
      (∀ a p, look s.accounts r.account = some a → a.body = .person p → p.parent ≠ some r.account →
        let standing := a.figures.used + k + retentionCharge a.figures.retained a.percent
        let q := nextQuota s.clock.now p standing
        (∃ b, look t.accounts r.account = some b ∧ b.body = .person { p with quota := q } ∧ b.percent = a.percent ∧
          b.figures = { a.figures with pending := a.figures.pending - k, used := a.figures.used + k } ∧
          b.stats = a.stats) ∧
        let told := stateNotice r.account p.quota q standing (softLimit p)
        t.mlu = toldMgmt told u.mlu ∧ (∀ g, g ≠ h → t.heads.get g = toldHead told (s.heads.get g)) ∧
        t.heads.get h = { toldHead told (tookHead tag (s.heads.get h)) with slots := (t.heads.get h).slots }) ∧
      (∀ n, n ≠ r.account → (look t.accounts n).map (fun a => (a.body, a.percent, a.stats)) =
        (look s.accounts n).map fun a => (a.body, a.percent, a.stats)) ∧
      t.clock = s.clock ∧ t.settings = s.settings ∧ t.epu = s.epu ∧ t.rsq = s.rsq ∧ t.dpu = s.dpu ∧
      t.part = s.part ∧ t.pending = s.pending)) ∧
  ((∀ changes : List (Option LifeChange),
      (runsOf changes).flatMap (fun e => (List.range e.count).map fun i =>
        (⟨e.kind, e.volume, e.first + i, e.epoch, e.oldShip⟩ : LifeChange)) = changes.filterMap id ∧
      (∀ e ∈ runsOf changes, 1 ≤ e.count ∧ e.count ≤ 256)) ∧
    (∀ (A : List (Option LifeChange)) (d : LifeChange),
      let alone : JournalEntry := ⟨0, d.kind, d.volume, d.extent, 1, d.epoch, d.oldShip⟩
      runsOf [some d] = [alone] ∧ runsOf (A ++ [none]) = runsOf A ∧ runsOf (A ++ [none, some d]) = runsOf A ++ [alone] ∧
      ∀ c : LifeChange, ∃ before last, runsOf (A ++ [some c]) = before ++ [last] ∧
        last.first + last.count = c.extent + 1 ∧
        ((d.kind = c.kind ∧ d.volume = c.volume ∧ d.extent = c.extent + 1 ∧ d.epoch = c.epoch ∧ d.oldShip = c.oldShip ∧
            last.count < 256) →
          runsOf (A ++ [some c, some d]) = before ++ [{ last with count := last.count + 1 }]) ∧
        (¬ (d.kind = c.kind ∧ d.volume = c.volume ∧ d.extent = c.extent + 1 ∧ d.epoch = c.epoch ∧
            d.oldShip = c.oldShip ∧ last.count < 256) →
          runsOf (A ++ [some c, some d]) = before ++ [last, alone])) ∧
    ∀ (changes : List (Option LifeChange)) (s : State), appendChanges changes s = (runsOf changes).foldl appendEntry s) ∧
  ∀ (s : State) (e : JournalEntry),
    let t := appendEntry s e
    let A := s.journal.append
    let O := s.journal.oldest
    let lost := fun (x : Channel) => { x with
      state := .stopped, outstanding := none, deadline := none, probeDue := none, suspendPending := false,
      condition := .journalLost, failures := 0 }
    let onOldest := fun (x : Channel) (p : Pass) => x.pass = some p ∧ p.mode = .delta ∧ p.cursor = O
    t = { s with journal := t.journal, volumes := t.volumes, channels := t.channels, mlu := t.mlu } ∧
    (A < 281474976710656 → A - O < 4194304 →
      t = { s with journal := ⟨s.journal.entries ++ [{ e with seq := A }], A + 1, O⟩ }) ∧
    (A < 281474976710656 → 4194304 ≤ A - O →
      t.journal = ⟨s.journal.entries.tail ++ [{ e with seq := A }], A + 1, O + 1⟩ ∧
      (∀ c p, onOldest (s.channels.get c) p → t.channels.get c = lost (s.channels.get c)) ∧
      (∀ c, (∀ p, ¬ onOldest (s.channels.get c) p) → t.channels.get c = s.channels.get c) ∧
      (∀ v c p, onOldest (s.channels.get c) p → p.volume = v →
        look t.volumes v = (look s.volumes v).map fun V => { V with needsRebase := true }) ∧
      (∀ v, (∀ c p, onOldest (s.channels.get c) p → p.volume ≠ v) → look t.volumes v = look s.volumes v) ∧
      t.mlu = noticedMgmtAll (four.filterMap fun c =>
        match (s.channels.get c).pass with
        | some p => if p.mode = .delta ∧ p.cursor = O then some (.journalLost c p.volume p.id) else none
        | none => none) s.mlu) ∧
    (281474976710656 ≤ A →
      t.journal = ⟨[{ e with seq := 0 }], 1, 0⟩ ∧
      (∀ v, look t.volumes v = (look s.volumes v).map fun V => { V with
        shipMark := 0, needsRebase := true, catalogue := V.catalogue.map fun p => { p with mark := 0 } }) ∧
      (∀ c p, (s.channels.get c).state ≠ .idle → (s.channels.get c).pass = some p →
        t.channels.get c = lost (s.channels.get c)) ∧
      (∀ c, (s.channels.get c).state = .idle → t.channels.get c = s.channels.get c) ∧
      t.mlu = noticedMgmtAll ((four.filterMap fun c =>
        if (s.channels.get c).state = .idle then none
        else (s.channels.get c).pass.map fun p => .journalLost c p.volume p.id) ++ [.journalRestart]) s.mlu)

/-- R44, R53, Table 3-2: a RETURN of an OPEN reservation: its remainder becomes FREE and no other extent changes, F,
the zone counts and the held counts follow (R6, R64), pending falls by it, the slot is FREE with its generation, and
journal, cursor and quota states stay; otherwise Table 3-2 answers. -/
def Obligations.ReturnFreesRemainder : Prop :=
  ∀ (s : State) (h : HeadId) (tag slot generation : Nat), TakesUp s h tag (.returnSlot slot generation) →
    Rising s.pool.extents → ∃ t, exec (.returnSlot h tag slot generation) s = .next t ∧
    let answered := fun c => t = { s with
      heads := s.heads.set h (tookHead tag (s.heads.get h)), arb := t.arb, sent := headReply 0x12 s h tag (.code c) }
    (31 < slot → answered .unknownReservation) ∧
    (slot ≤ 31 → (slotOf s h slot).reservation = none → answered .unknownReservation) ∧
    (∀ r, slot ≤ 31 → (slotOf s h slot).reservation = some r → (slotOf s h slot).generation ≠ generation →
      answered .unknownReservation) ∧
    (∀ r, slot ≤ 31 → (slotOf s h slot).reservation = some r → (slotOf s h slot).generation = generation →
      r.state = .lapsed → answered .tooLate) ∧
    (∀ r, slot ≤ 31 → (slotOf s h slot).reservation = some r → (slotOf s h slot).generation = generation →
      r.state = .open_ →
      uncommitted r = (r.runs.flatMap fun x => (List.range x.length).map (x.first + ·)).drop r.cursor ∧
      t.sent = headReply 0x12 s h tag (.returned (r.granted - r.cursor)) ∧
      (∀ x, x ∉ uncommitted r → look t.pool.extents x = look s.pool.extents x) ∧
      (∀ x e, x ∈ uncommitted r → extentAt s.pool x = some e → isReserved e = true → look t.pool.extents x = none) ∧
      FreedCounted s t ∧ HeldFallen s t ∧
      slotOf t h slot = ⟨generation, none⟩ ∧ (∀ j, j ≠ slot → slotOf t h j = slotOf s h j) ∧
      t.accounts = (changeFigures r.account (fun f => { f with pending := f.pending - (r.granted - r.cursor) }) s).accounts ∧
      t.heads.get h = { tookHead tag (s.heads.get h) with slots := (t.heads.get h).slots } ∧
      (∀ g, g ≠ h → t.heads.get g = s.heads.get g) ∧
      t.journal = s.journal ∧ t.clock = s.clock ∧ t.settings = s.settings ∧ t.mlu = s.mlu ∧ t.epu = s.epu ∧
      t.rsq = s.rsq ∧ t.channels = s.channels ∧ t.dpu = s.dpu ∧ t.part = s.part ∧ t.pending = s.pending)

/-- R33, R54, R114, R163: when a reservation or grace deadline has been reached, or the window given has come to
differ, and it is the clock unit's first due work (`DueAt`: the first of its kind, and no other kind fell due before
it), agent CK comes to wait with it, in class UPDATE at age 0; nothing else changes. With no OPEN slot past its
deadline, no OVER_SOFT account past its own, the grace hold on, the clock unset, or the window given equal to the
window state, the event of that kind changes nothing, and none does while CK waits already. That the event is a command
of its own, and that of kinds due at one value it takes its own, is the model's form of the clock unit
(notes/assumptions/2.md); that a grace lapse held back by the hold or an unset clock is ordered by its deadline is the
model's choice (notes/assumptions/51.md). That a window event falls due at the clock at which the difference was found
is deduced (notes/assumptions/25.md). The premise on the accounts is a part of `TablesCanonical`. -/
def Obligations.DueWorkPresented : Prop :=
  (∀ (s : State) (d : Nat) (w : CkWork), s.part = .running → look s.arb.waiting 8 = none → Rising s.accounts →
    DueAt s d w → (∀ e v, DueAt s e v → d ≤ e) →
    let presented : State := { s with arb := { s.arb with waiting := put s.arb.waiting 8 ⟨.update, 0, .ck w⟩ }, sent := [] }
    (∀ h k g, w = .lapse h k g → exec .reservationDeadlineExpiry s = .next presented) ∧
    (∀ n, w = .grace n → exec .graceDeadlineExpiry s = .next presented) ∧
    (w = .window → exec .windowChangeDetect s = .next presented)) ∧
  ∀ s : State, s.part = .running → Rising s.accounts →
    let same := fun i => exec i s = .next { s with sent := [] }
    ((∀ h k r, OpenSlot s h k r → s.clock.now < r.deadline) → same .reservationDeadlineExpiry) ∧
    (s.clock.isSet = false ∨ s.settings.graceHold = true ∨ (∀ n d, OverSoftAt s n d → s.clock.now < d) →
      same .graceDeadlineExpiry) ∧
    (s.clock.isSet = false ∨ s.given = s.clock.window → same .windowChangeDetect) ∧
    (look s.arb.waiting 8 ≠ none →
      same .reservationDeadlineExpiry ∧ same .graceDeadlineExpiry ∧ same .windowChangeDetect)

/-- R55: the turn of a lapse: an OPEN slot with the generation named and its deadline reached becomes LAPSED with every
field kept, its remainder becomes FREE, with F, the zone counts and the held counts (R6, R64), and pending falls by it,
and RESERVATION_LAPSED is placed when the link is UP; in every other case the lapse changes nothing and sends
nothing. -/
def Obligations.ReservationLapses : Prop :=
  ∀ (s : State) (h : HeadId) (k g : Nat) (w : Waiting), Granted s 8 → look s.arb.waiting 8 = some w →
    w.work = .ck (.lapse h k g) → Rising s.pool.extents → ∃ t, exec .reservationLapse s = .next t ∧
    (∀ r, (slotOf s h k).reservation = some r → k < (s.heads.get h).slots.length →
      r.state = .open_ → (slotOf s h k).generation = g → r.deadline ≤ s.clock.now →
      slotOf t h k = ⟨g, some { r with state := .lapsed }⟩ ∧ (∀ j, j ≠ k → slotOf t h j = slotOf s h j) ∧
      (∀ x, x ∉ uncommitted r → look t.pool.extents x = look s.pool.extents x) ∧
      (∀ x e, x ∈ uncommitted r → extentAt s.pool x = some e → isReserved e = true → look t.pool.extents x = none) ∧
      FreedCounted s t ∧ HeldFallen s t ∧
      t.accounts = (changeFigures r.account (fun f => { f with pending := f.pending - (r.granted - r.cursor) }) s).accounts ∧
      (let notice := Notice.reservationLapsed k g r.account r.cursor (r.granted - r.cursor);
       t.heads.get h = { (if (s.heads.get h).link = .up then noticed notice (s.heads.get h) else s.heads.get h) with
         slots := (t.heads.get h).slots }) ∧
      (∀ i, i ≠ h → t.heads.get i = s.heads.get i) ∧
      t.journal = s.journal ∧ t.clock = s.clock ∧ t.settings = s.settings ∧ t.mlu = s.mlu ∧ t.epu = s.epu ∧
      t.rsq = s.rsq ∧ t.channels = s.channels ∧ t.dpu = s.dpu ∧ t.part = s.part ∧ t.pending = s.pending ∧ t.sent = []) ∧
    ((∀ r, (slotOf s h k).reservation = some r →
        r.state = .lapsed ∨ (slotOf s h k).generation ≠ g ∨ s.clock.now < r.deadline) →
      t = { s with arb := t.arb, sent := [] })

/-- R58 to R62: RELEASE: the checks of Table 3-9, each changing nothing. Otherwise an extent that is LIVE on the volume
for the account is good at its first place of the list and every other place is a MISMATCH; a good one becomes RETAINED
with the open epoch as death epoch when the newest LIVE snapshot is at or above its birth, and joins the tail of the
retention chain in list order (R84), or becomes FREE; any other extent keeps its record, chain links apart. The reply
counts them and its bitmap marks the mismatches; the DEATH changes are appended in runs; figures, statistic, F and the
zone counts and the held count follow (R6, R31, R40, R64), a change of the quota state sends ACCOUNT_STATE to the
management link and to every UP head that selects it (R32), the appends act on channels, volumes and the management
link as R16 and R17 give (stated with COMMIT), every other account but its group's statistic stays, and nothing follows
when no place is good. -/
def Obligations.ReleaseRetainsOrFrees : Prop :=
  (∀ V : Volume, (V.catalogue.map (·.epoch)).Pairwise (· < ·) →
    ∀ b, retains V b = true ↔ ∃ p ∈ V.catalogue, p.state = .live ∧ b ≤ p.epoch) ∧
  ∀ (s : State) (h : HeadId) (tag account volume : Nat) (extents : List Nat),
    TakesUp s h tag (.release account volume extents) → Rising s.pool.extents →
    ∃ t, exec (.release h tag account volume extents) s = .next t ∧
    let answered := fun r => t = { s with
      heads := s.heads.set h (tookHead tag (s.heads.get h)), arb := t.arb, sent := headReply 0x13 s h tag r }
    ((extents = [] ∨ 64 < extents.length) → answered (.code .badArgument)) ∧
    (extents ≠ [] → extents.length ≤ 64 → account? s account = none → answered (.code .noAccount)) ∧
    (∀ a g, extents ≠ [] → extents.length ≤ 64 → account? s account = some a → a.body = .group g →
      answered (.code .notPerson)) ∧
    (∀ a p, extents ≠ [] → extents.length ≤ 64 → account? s account = some a → a.body = .person p →
      volume? s volume = none → answered (.code .noVolume)) ∧
    (∀ a p V, extents ≠ [] → extents.length ≤ 64 → account? s account = some a → a.body = .person p →
      volume? s volume = some V →
      let places := (List.range extents.length).map (goodPlace s account volume extents)
      let good := places.filterMap id
      let kept := good.filter fun g => retains V g.2.1
      (∀ x, (x ∉ extents ∨ (∀ b sh, extentAt s.pool x ≠ some (.live volume account b sh))) →
        (look t.pool.extents x).map withoutLinks = (look s.pool.extents x).map withoutLinks) ∧
      (∀ x b sh, x ∈ extents → extentAt s.pool x = some (.live volume account b sh) →
        (look t.pool.extents x).map withoutLinks =
          if retains V b then some (.retained volume account b sh V.openEpoch none none) else none) ∧
      (∃ mismatch : BitVec 64,
        t.sent = headReply 0x13 s h tag (.released good.length kept.length (good.length - kept.length) mismatch) ∧
        ∀ i, i < 64 → mismatch.getLsbD i =
          (decide (i < extents.length) && (goodPlace s account volume extents i).isNone)) ∧
      (good = [] → t = { s with heads := s.heads.set h (tookHead tag (s.heads.get h)), arb := t.arb, sent := t.sent }) ∧
      (∀ L, ChainOf s volume V L → ∃ W, look t.volumes volume = some W ∧ ChainOf t volume W (L ++ kept.map (·.1))) ∧
      let u := appendChanges (places.map (Option.map fun g =>
        (⟨.death, volume, g.1, V.openEpoch, some g.2.2⟩ : LifeChange))) s
      t.journal = u.journal ∧ t.channels = u.channels ∧ FreedCounted s t ∧
      (∀ v, v ≠ volume → look t.volumes v = look u.volumes v) ∧
      (∀ U, look u.volumes volume = some U → ∃ W, look t.volumes volume = some W ∧ W = { U with
        held := V.held - (good.length - kept.length), chainHead := W.chainHead, chainTail := W.chainTail,
        chainCount := V.chainCount + kept.length }) ∧
      (∀ n, figuresOf t n = figuresOf (changeFigures account (fun f => { f with
        used := f.used - good.length, retained := f.retained + kept.length }) s) n) ∧
      (good ≠ [] → p.parent ≠ some account →
        let figures := { a.figures with used := a.figures.used - good.length, retained := a.figures.retained + kept.length }
        let standing := figures.used + retentionCharge figures.retained a.percent
        let q := nextQuota s.clock.now p standing
        look t.accounts account = some { a with
          body := .person { p with quota := q }, figures := figures
          stats := { a.stats with releases := min 4294967295 (a.stats.releases + good.length) } } ∧
        let told := stateNotice account p.quota q standing (softLimit p)
        t.mlu = toldMgmt told u.mlu ∧ (∀ g, g ≠ h → t.heads.get g = toldHead told (s.heads.get g)) ∧
        t.heads.get h = toldHead told (tookHead tag (s.heads.get h))) ∧
      (good ≠ [] → ∀ n, n ≠ account → (look t.accounts n).map (fun b => (b.body, b.percent, b.stats)) =
        (look s.accounts n).map fun b => (b.body, b.percent,
          if p.parent = some n then { b.stats with releases := min 4294967295 (b.stats.releases + good.length) }
          else b.stats)) ∧
      t.clock = s.clock ∧ t.settings = s.settings ∧ t.epu = s.epu ∧ t.rsq = s.rsq ∧ t.dpu = s.dpu ∧
      t.part = s.part ∧ t.pending = s.pending)

/-! ## Accounts (Chapter 2) -/

/-- R20, R35: CREATE_ACCOUNT: the checks in their order, and a new record with clamped settings, all figures and
statistics 0 and a person UNDER; a person's parent group counts one member more; the reply carries the settings stored,
a person's parent group among them; no other record changes. -/
def Obligations.AccountCreated : Prop :=
  ∀ (s : State) (tag n : Nat) (kind : AccountKind) (x : AccountSettings) (parent : Option Nat),
    Takes s .mgmt tag (.createAccount n kind x parent) →
    ∃ t, exec (.createAccount tag n kind x parent) s = .next t ∧
    let refused := fun c => t = { s with mlu := tookMgmt s tag, arb := t.arb, sent := mgmtReply 0x46 tag (.code c) }
    ((n = 0 ∨ (kind = .person ∧ x.hard = none)) → refused .badArgument) ∧
    (1 ≤ n → n ≤ 65535 → (kind = .person → x.hard ≠ none) → look s.accounts n ≠ none → refused .exists_) ∧
    (1 ≤ n → n ≤ 65535 → kind = .group → look s.accounts n = none → 4096 ≤ groupCount s → refused .groupsFull) ∧
    (∀ g, 1 ≤ n → n ≤ 65535 → kind = .person → x.hard ≠ none → look s.accounts n = none → parent = some g →
      account? s g = none → refused .noAccount) ∧
    (∀ g b p, 1 ≤ n → n ≤ 65535 → kind = .person → x.hard ≠ none → look s.accounts n = none → parent = some g →
      account? s g = some b → b.body = .person p → refused .notGroup) ∧
    (∀ hard, 1 ≤ n → n ≤ 65535 → kind = .person → x.hard = some hard → look s.accounts n = none →
      (∀ g, parent = some g → isGroup s g = true) →
      t = { s with accounts := t.accounts, mlu := tookMgmt s tag, arb := t.arb,
                   sent := mgmtReply 0x46 tag (.accountCreated ⟨some (min hard maxCapacity),
                     x.soft.map fun y => min y (min hard maxCapacity), min x.grace 2592000, min x.percent 100, x.service⟩
                     parent) } ∧
      look t.accounts n = some ⟨.person ⟨parent, x.service, min hard maxCapacity,
          x.soft.map fun y => min y (min hard maxCapacity), min x.grace 2592000, .under⟩,
        min x.percent 100, ⟨0, 0, 0, 0⟩, ⟨0, 0, 0, 0, 0⟩⟩ ∧
      (∀ m, m ≠ n → look t.accounts m =
        if parent = some m then (look s.accounts m).map (withMembers (· + 1)) else look s.accounts m)) ∧
    (1 ≤ n → n ≤ 65535 → kind = .group → look s.accounts n = none → groupCount s < 4096 →
      (∃ settings, settings.hard = x.hard.map (fun y => min y maxCapacity) ∧ settings.percent = min x.percent 100 ∧
        t = { s with accounts := t.accounts, mlu := tookMgmt s tag, arb := t.arb,
                     sent := mgmtReply 0x46 tag (.accountCreated settings none) }) ∧
      look t.accounts n = some ⟨.group ⟨x.hard.map fun y => min y maxCapacity, 0⟩, min x.percent 100, ⟨0, 0, 0, 0⟩,
        ⟨0, 0, 0, 0, 0⟩⟩ ∧
      (∀ m, m ≠ n → look t.accounts m = look s.accounts m))

/-- R31, R36: SET_LIMITS replaces the settings of a record and keeps its kind, parent, figures and statistics; a
person's quota state is re-evaluated when its hard limit, soft limit or percent changes and kept otherwise, and a
change of it sends ACCOUNT_STATE to the management link and to every UP head that selects the kind (R32). Settings
without a hard limit are refused for a person, which the model takes from R35 (notes/assumptions/6.md). -/
def Obligations.LimitsSet : Prop :=
  ∀ (s : State) (tag n : Nat) (x : AccountSettings), Takes s .mgmt tag (.setLimits n x) →
    ∃ t, exec (.setLimits tag n x) s = .next t ∧
    (account? s n = none →
      t = { s with mlu := tookMgmt s tag, arb := t.arb, sent := mgmtReply 0x47 tag (.code .noAccount) }) ∧
    (∀ a g, account? s n = some a → a.body = .group g →
      (∃ settings, settings.hard = x.hard.map (fun y => min y maxCapacity) ∧ settings.percent = min x.percent 100 ∧
        t = { s with accounts := t.accounts, mlu := tookMgmt s tag, arb := t.arb,
                     sent := mgmtReply 0x47 tag (.accountStored settings) }) ∧
      look t.accounts n = some { a with
        body := .group { g with hard := x.hard.map fun y => min y maxCapacity }, percent := min x.percent 100 } ∧
      ∀ m, m ≠ n → look t.accounts m = look s.accounts m) ∧
    (∀ a p, account? s n = some a → a.body = .person p → x.hard = none →
      t = { s with mlu := tookMgmt s tag, arb := t.arb, sent := mgmtReply 0x47 tag (.code .badArgument) }) ∧
    (∀ a p hard, account? s n = some a → a.body = .person p → x.hard = some hard →
      t = { s with accounts := t.accounts, heads := t.heads, mlu := t.mlu, arb := t.arb, sent := t.sent } ∧
      (∀ m, m ≠ n → look t.accounts m = look s.accounts m) ∧
      ∃ q : Person,
        q.hard = min hard maxCapacity ∧ q.soft = x.soft.map (fun y => min y (min hard maxCapacity)) ∧
        q.grace = min x.grace 2592000 ∧ q.service = x.service ∧ q.parent = p.parent ∧
        t.sent = mgmtReply 0x47 tag (.accountStored ⟨some q.hard, q.soft, q.grace, min x.percent 100, x.service⟩) ∧
        look t.accounts n = some { a with body := .person q, percent := min x.percent 100 } ∧
        (let told := stateNotice n p.quota q.quota
          (a.figures.used + retentionCharge a.figures.retained (min x.percent 100)) (softLimit q);
         t.mlu = toldMgmt told (tookMgmt s tag) ∧ ∀ h, t.heads.get h = toldHead told (s.heads.get h)) ∧
        ((p.hard = q.hard ∧ p.soft = q.soft ∧ a.percent = min x.percent 100) → q.quota = p.quota) ∧
        (¬ (p.hard = q.hard ∧ p.soft = q.soft ∧ a.percent = min x.percent 100) →
          q.quota = nextQuota s.clock.now { q with quota := p.quota }
            (a.figures.used + retentionCharge a.figures.retained (min x.percent 100))))

/-- R37: SET_PARENT: its refusals, NO_ACCOUNT before NOT_PERSON before NOT_GROUP where several apply, which is the
model's choice (notes/assumptions/42.md); the present parent changes nothing; otherwise the person's figures leave the
old group's aggregates and join the new one's, the member counts follow, and the parent field is set. -/
def Obligations.ParentSet : Prop :=
  ∀ (s : State) (tag n : Nat) (parent : Option Nat), Takes s .mgmt tag (.setParent n parent) →
    ∃ t, exec (.setParent tag n parent) s = .next t ∧
    let answered := fun c => t = { s with mlu := tookMgmt s tag, arb := t.arb, sent := mgmtReply 0x48 tag (.code c) }
    ((account? s n = none ∨ ∃ g, parent = some g ∧ account? s g = none) → answered .noAccount) ∧
    (∀ a g, account? s n = some a → a.body = .group g → (∀ m, parent = some m → account? s m ≠ none) →
      answered .notPerson) ∧
    (∀ a p m b q, account? s n = some a → a.body = .person p → parent = some m → account? s m = some b →
      b.body = .person q → answered .notGroup) ∧
    (∀ a p, account? s n = some a → a.body = .person p → (∀ m, parent = some m → isGroup s m = true) →
      (p.parent = parent → answered .ok) ∧
      (p.parent ≠ parent → p.parent ≠ some n →
        t = { s with accounts := t.accounts, mlu := tookMgmt s tag, arb := t.arb, sent := mgmtReply 0x48 tag (.code .ok) } ∧
        look t.accounts n = some { a with body := .person { p with parent := parent } } ∧
        ∀ m, m ≠ n → look t.accounts m =
          if parent = some m then (look s.accounts m).map (joinedBy a.figures)
          else if p.parent = some m then (look s.accounts m).map (leftBy a.figures)
          else look s.accounts m))

/-- R38: DELETE_ACCOUNT: refused NO_ACCOUNT for an undefined number, and NOT_EMPTY for a person with a figure above 0 or
named by a restore context and for a group with members; otherwise the number becomes undefined, the reply is OK, and a
deleted person's group counts one member fewer, and a deleted group is one group fewer. -/
def Obligations.AccountDeleted : Prop :=
  ∀ (s : State) (tag n : Nat), Takes s .mgmt tag (.deleteAccount n) → ∃ t, exec (.deleteAccount tag n) s = .next t ∧
    let refused := fun c => t = { s with mlu := tookMgmt s tag, arb := t.arb, sent := mgmtReply 0x49 tag (.code c) }
    (account? s n = none → refused .noAccount) ∧
    (∀ a p, account? s n = some a → a.body = .person p →
      (0 < a.figures.used ∨ 0 < a.figures.pending ∨ 0 < a.figures.hold ∨ 0 < a.figures.retained ∨
        ∃ c ∈ s.rsq.contexts, c.target = n) → refused .notEmpty) ∧
    (∀ a g, account? s n = some a → a.body = .group g → 0 < g.members → refused .notEmpty) ∧
    (∀ a p, account? s n = some a → a.body = .person p → a.figures = ⟨0, 0, 0, 0⟩ → (∀ c ∈ s.rsq.contexts, c.target ≠ n) →
      Rising s.accounts →
      t = { s with accounts := t.accounts, mlu := tookMgmt s tag, arb := t.arb, sent := mgmtReply 0x49 tag (.code .ok) } ∧
      look t.accounts n = none ∧ ∀ m, m ≠ n → look t.accounts m =
        if p.parent = some m then (look s.accounts m).map (withMembers (· - 1)) else look s.accounts m) ∧
    (∀ a g, account? s n = some a → a.body = .group g → g.members = 0 → Rising s.accounts →
      t = { s with accounts := t.accounts, mlu := tookMgmt s tag, arb := t.arb, sent := mgmtReply 0x49 tag (.code .ok) } ∧
      look t.accounts n = none ∧ groupCount t + 1 = groupCount s ∧ ∀ m, m ≠ n → look t.accounts m = look s.accounts m)

/-- R34: SET_GRACE_HOLD: ON while off sets the flag and the start time; OFF while on clears it and moves the grace
deadline of every OVER_SOFT account later by the clock minus the start time, 0 when the clock is below it; the other
two forms change nothing. Each answers OK with the state of the hold. A deadline that would pass the upper end of the
clock is left out, since no rule gives its value (notes/assumptions/1.md).
R32, R33: the turn of a grace lapse: an OVER_SOFT account whose deadline is at or below the clock becomes LAPSED while
the hold is off, with an ACCOUNT_STATE notice to the management link and to every UP head that selects the kind; in
every other case the lapse changes nothing. -/
def Obligations.GraceHoldAndLapse : Prop :=
  (∀ (s : State) (tag : Nat) (on : Bool), Takes s .mgmt tag (.setGraceHold on) →
      ∃ t, exec (.setGraceHold tag on) s = .next t ∧
      (on = true → s.settings.graceHold = false →
        t = { s with settings := { s.settings with graceHold := true, graceStart := s.clock.now }, mlu := tookMgmt s tag,
                     arb := t.arb, sent := mgmtReply 0x4A tag (.graceHold true) }) ∧
      (on = s.settings.graceHold →
        t = { s with mlu := tookMgmt s tag, arb := t.arb, sent := mgmtReply 0x4A tag (.graceHold on) }) ∧
      (on = false → s.settings.graceHold = true →
        t = { s with settings.graceHold := false, accounts := t.accounts, mlu := tookMgmt s tag, arb := t.arb,
                     sent := mgmtReply 0x4A tag (.graceHold false) } ∧
        ∀ n a, look s.accounts n = some a →
          (∀ p d, a.body = .person p → p.quota = .overSoft d →
            d + (s.clock.now - s.settings.graceStart) ≤ clockMax → look t.accounts n = some { a with
              body := .person { p with quota := .overSoft (d + (s.clock.now - s.settings.graceStart)) } }) ∧
          ((∀ p d, a.body = .person p → p.quota ≠ .overSoft d) → look t.accounts n = some a))) ∧
  (∀ (s : State) (n : Nat) (w : Waiting), Granted s 8 → look s.arb.waiting 8 = some w → w.work = .ck (.grace n) →
      ∃ t, exec .graceLapse s = .next t ∧
      (∀ a p d, look s.accounts n = some a → a.body = .person p → p.quota = .overSoft d → d ≤ s.clock.now →
        s.settings.graceHold = false →
        t = { s with accounts := t.accounts, heads := t.heads, mlu := t.mlu, arb := t.arb, sent := [] } ∧
        look t.accounts n = some { a with body := .person { p with quota := .lapsed } } ∧
        (∀ m, m ≠ n → look t.accounts m = look s.accounts m) ∧
        (let notice := Notice.accountState n .overSoft .lapsed (standingUse a) (softLimit p);
         t.mlu = noticedMgmt notice s.mlu ∧ ∀ h, t.heads.get h = toldHead (some notice) (s.heads.get h))) ∧
      ((∀ a p d, look s.accounts n = some a → a.body = .person p → p.quota = .overSoft d →
          s.clock.now < d ∨ s.settings.graceHold = true) →
        t = { s with arb := t.arb, sent := [] }))

/-! ## Volumes, seals and expiry (Chapters 4 and 5) -/

/-- R65, R66, R67: CREATE_VOLUME, SET_VOLUME and DELETE_VOLUME with their refusals; a new volume has open epoch 1 and
nothing shipped, sealed or held; SET_VOLUME stores the four settings, and a volume with a pass entry or a pass keeps
its channel. R77: a SET_VOLUME that changes the keep count makes a rotation check: as many snapshots as the LIVE ones
exceed it, the oldest first of those without pins and expire-pending flag, become EXPIRING and join the end of the
expiry queue. The order of the refusals of CREATE_VOLUME (notes/assumptions/45.md) and of SET_VOLUME
(notes/assumptions/46.md) is the model's choice. -/
def Obligations.VolumesAdministered : Prop :=
  (∀ (s : State) (v : Nat), inDuplication s v = true ↔ ∃ c, (∃ e, (v, e) ∈ (s.channels.get c).passQueue) ∨
    ∃ p, (s.channels.get c).pass = some p ∧ p.volume = v) ∧
  ∀ (s : State) (tag v : Nat) (x : VolumeRequest),
    (Takes s .mgmt tag (.createVolume v x) → ∃ t, exec (.createVolume tag v x) s = .next t ∧
      ((63 < v ∨ 3 < x.channel) →
        t = { s with mlu := tookMgmt s tag, arb := t.arb, sent := mgmtReply 0x4D tag (.code .badArgument) }) ∧
      (∀ V, v ≤ 63 → x.channel ≤ 3 → volume? s v = some V →
        t = { s with mlu := tookMgmt s tag, arb := t.arb, sent := mgmtReply 0x4D tag (.code .exists_) }) ∧
      (∀ c, four? x.channel = some c → v ≤ 63 → volume? s v = none →
        t = { s with volumes := put s.volumes v
                       ⟨1, none, min 64 (max 1 x.keep), min 86400 (max 60 x.spacing), x.nightly, c, 0, 0, false, 0, none,
                         none, 0, []⟩,
                     mlu := tookMgmt s tag, arb := t.arb,
                     sent := mgmtReply 0x4D tag (.volumeStored
                       ⟨min 64 (max 1 x.keep), min 86400 (max 60 x.spacing), x.nightly, c⟩) })) ∧
    (Takes s .mgmt tag (.setVolume v x) → ∃ t, exec (.setVolume tag v x) s = .next t ∧
      (volume? s v = none →
        t = { s with mlu := tookMgmt s tag, arb := t.arb, sent := mgmtReply 0x4E tag (.code .noVolume) }) ∧
      (∀ V, volume? s v = some V → 3 < x.channel →
        t = { s with mlu := tookMgmt s tag, arb := t.arb, sent := mgmtReply 0x4E tag (.code .badArgument) }) ∧
      (∀ V c, volume? s v = some V → four? x.channel = some c → c ≠ V.channel → inDuplication s v = true →
        t = { s with mlu := tookMgmt s tag, arb := t.arb, sent := mgmtReply 0x4E tag (.code .busy) }) ∧
      (∀ V c, volume? s v = some V → four? x.channel = some c → (c = V.channel ∨ inDuplication s v = false) →
        let stored := { V with
          keep := min 64 (max 1 x.keep), spacing := min 86400 (max 60 x.spacing), nightly := x.nightly, channel := c }
        t = { s with volumes := t.volumes, epu.expiryQueue := t.epu.expiryQueue, mlu := tookMgmt s tag, arb := t.arb,
                     sent := mgmtReply 0x4E tag (.volumeStored
                       ⟨min 64 (max 1 x.keep), min 86400 (max 60 x.spacing), x.nightly, c⟩) } ∧
        (∀ w, w ≠ v → look t.volumes w = look s.volumes w) ∧
        (V.keep = min 64 (max 1 x.keep) → look t.volumes v = some stored ∧ t.epu = s.epu) ∧
        (V.keep ≠ min 64 (max 1 x.keep) → EpochsDistinct V →
          look t.volumes v = some (rotatedVolume stored) ∧
          t.epu.expiryQueue = s.epu.expiryQueue ++ (rotationVictims stored).map fun e => (v, e)))) ∧
    (Takes s .mgmt tag (.deleteVolume v) → ∃ t, exec (.deleteVolume tag v) s = .next t ∧
      (volume? s v = none →
        t = { s with mlu := tookMgmt s tag, arb := t.arb, sent := mgmtReply 0x4F tag (.code .noVolume) }) ∧
      (∀ V, volume? s v = some V → ((∃ e ∈ s.epu.sealQueue, e.volume = v) ∨ inDuplication s v = true) →
        t = { s with mlu := tookMgmt s tag, arb := t.arb, sent := mgmtReply 0x4F tag (.code .busy) }) ∧
      (∀ V, volume? s v = some V → (∀ e ∈ s.epu.sealQueue, e.volume ≠ v) → inDuplication s v = false →
        (0 < V.held ∨ V.catalogue ≠ []) →
        t = { s with mlu := tookMgmt s tag, arb := t.arb, sent := mgmtReply 0x4F tag (.code .notEmpty) }) ∧
      (∀ V, volume? s v = some V → (∀ e ∈ s.epu.sealQueue, e.volume ≠ v) → inDuplication s v = false → V.held = 0 →
        V.catalogue = [] →
        t = { s with volumes := unlist s.volumes v, mlu := tookMgmt s tag, arb := t.arb,
                     sent := mgmtReply 0x4F tag (.code .ok) }))

/-- R69: a SEAL of an undefined volume is refused NO_VOLUME; it creates an entry at the end of the queue, joins the
entry of its volume with fewer than 8 waiters with its label ignored, and is refused BUSY at 8. An accepted SEAL is not
answered at its turn and its tag stays in use. Stated for the management link, and for a head. -/
def Obligations.SealRequested : Prop :=
  ∀ (s : State) (tag v label : Nat),
    (Takes s .mgmt tag (.seal v label) → ∃ t, exec (.seal .mgmt tag v label) s = .next t ∧
      (volume? s v = none →
        t = { s with mlu := tookMgmt s tag, arb := t.arb, sent := mgmtReply 0x14 tag (.code .noVolume) }) ∧
      (∀ V, volume? s v = some V → (∀ e ∈ s.epu.sealQueue, e.volume ≠ v) →
        t = { s with epu.sealQueue := s.epu.sealQueue ++ [⟨v, label, [.mgmt tag]⟩], mlu := heldMgmt s, arb := t.arb,
                     sent := [] }) ∧
      (∀ V e, volume? s v = some V → sealEntry? s v = some e → 8 ≤ e.waiters.length →
        t = { s with mlu := tookMgmt s tag, arb := t.arb, sent := mgmtReply 0x14 tag (.code .busy) }) ∧
      (∀ V e, volume? s v = some V → sealEntry? s v = some e → e.waiters.length < 8 →
        t = { s with epu.sealQueue := s.epu.sealQueue.map fun d =>
                       if d.volume = v then { d with waiters := d.waiters ++ [.mgmt tag] } else d,
                     mlu := heldMgmt s, arb := t.arb, sent := [] })) ∧
    (∀ h, TakesUp s h tag (.seal v label) → ∃ t, exec (.seal (.head h) tag v label) s = .next t ∧
      let H := s.heads.get h
      (volume? s v = none →
        t = { s with heads := s.heads.set h (tookHead tag H), arb := t.arb, sent := headReply 0x14 s h tag (.code .noVolume) }) ∧
      (∀ V, volume? s v = some V → (∀ e ∈ s.epu.sealQueue, e.volume ≠ v) →
        t = { s with epu.sealQueue := s.epu.sealQueue ++ [⟨v, label, [.head h H.incarnation tag]⟩],
                     heads := s.heads.set h (heldHead H), arb := t.arb, sent := [] }) ∧
      (∀ V e, volume? s v = some V → sealEntry? s v = some e → 8 ≤ e.waiters.length →
        t = { s with heads := s.heads.set h (tookHead tag H), arb := t.arb, sent := headReply 0x14 s h tag (.code .busy) }) ∧
      (∀ V e, volume? s v = some V → sealEntry? s v = some e → e.waiters.length < 8 →
        t = { s with epu.sealQueue := s.epu.sealQueue.map fun d =>
                       if d.volume = v then { d with waiters := d.waiters ++ [.head h H.incarnation tag] } else d,
                     heads := s.heads.set h (heldHead H), arb := t.arb, sent := [] }))

/-- R71, R72: an entry is eligible when its volume, ACTIVE, has no last seal time or the clock has reached it plus the
volume's spacing, and likewise for the pool, whose spacing of 0 holds at every moment. R71, R73, R74: the turn of a
seal operation takes the first eligible entry and removes it. It adds a snapshot of the open epoch with the clock, the
entry's label and the journal's append sequence, raises the open epoch by one, sets both last seal times and answers
the head and management waiters OK in order of joining; a SEALED notice goes to every UP head that selects it and to
the management link; a nightly trigger among the waiters enters the volume in its channel's pass queue with a pin on
the new snapshot, in place of an older target, whose pin is dropped (R78); a rotation check follows (R77). At 64
records every waiter is refused FULL, and else at the last epoch EPOCH_EXHAUSTED, a nightly trigger with
NIGHTLY_SKIPPED, and nothing is sealed. With no eligible entry the turn changes nothing, the record of the last SN turn
included, which is the model's choice (notes/assumptions/7.md). -/
def Obligations.SealTaken : Prop :=
  (∀ (s : State) (e : SealEntry), sealEligible s e = true ↔ ∃ V, volume? s e.volume = some V ∧
    (∀ last, V.lastSeal = some last → last + V.spacing ≤ s.clock.now) ∧
    (s.settings.poolSpacing = 0 ∨
      ∀ last, s.settings.poolLastSeal = some last → last + s.settings.poolSpacing ≤ s.clock.now)) ∧
  ∀ (s : State) (w : Waiting), Granted s 6 → look s.arb.waiting 6 = some w → w.work = .sn .sealOp →
    ∃ t, exec .sealOperation s = .next t ∧
    (s.epu.sealQueue.find? (sealEligible s) = none → t = { s with arb := t.arb, sent := [] }) ∧
    (∀ e V, s.epu.sealQueue.find? (sealEligible s) = some e → volume? s e.volume = some V →
      let answered := fun (h : HeadId) => { s.heads.get h with tags := tagsAnswered h (s.heads.get h) e.waiters }
      let mlu := { s.mlu with tags := mgmtTagsAnswered s.mlu.tags e.waiters }
      t.epu.sealQueue = s.epu.sealQueue.filter (fun d => d.volume ≠ e.volume) ∧ t.epu.lastTurn = .sealOp ∧
      t = { s with volumes := t.volumes, settings := t.settings, heads := t.heads, mlu := t.mlu, channels := t.channels,
                   epu := { t.epu with walk := s.epu.walk }, arb := t.arb, sent := t.sent } ∧
      (64 ≤ V.catalogue.length ∨ maxEpoch ≤ V.openEpoch →
        let code : Code := if 64 ≤ V.catalogue.length then .full else .epochExhausted
        let skipped := (e.waiters.filter (· = .nightly)).map fun _ => Notice.nightlySkipped e.volume code
        t.volumes = s.volumes ∧ t.settings = s.settings ∧ t.epu.expiryQueue = s.epu.expiryQueue ∧
        t.channels = s.channels ∧ (∀ h, t.heads.get h = answered h) ∧
        t.sent = sealAnswers s e.waiters (.code code) ∧
        t.mlu = noticedMgmtAll skipped mlu) ∧
      (V.catalogue.length < 64 → V.openEpoch < maxEpoch →
        let notice : Notice := .sealed e.volume V.openEpoch s.clock.now e.label
        let x := s.channels.get V.channel
        let made : Volume := { V with
          catalogue := V.catalogue ++ [⟨V.openEpoch, s.clock.now, e.label, .live, 0, false, s.journal.append⟩]
          openEpoch := V.openEpoch + 1, lastSeal := some s.clock.now }
        let leaves := fun (W : Volume) (expired : List Nat) =>
          look t.volumes e.volume = some (rotatedVolume W) ∧
          t.epu.expiryQueue = s.epu.expiryQueue ++ (expired ++ rotationVictims W).map fun n => (e.volume, n)
        t.settings = { s.settings with poolLastSeal := some s.clock.now } ∧
        (∀ v, v ≠ e.volume → look t.volumes v = look s.volumes v) ∧
        (∃ W, look t.volumes e.volume = some W ∧ W.openEpoch = V.openEpoch + 1 ∧ W.lastSeal = some s.clock.now ∧
          W.catalogue.map (·.epoch) = V.catalogue.map (·.epoch) ++ [V.openEpoch] ∧
          ∃ p, W.catalogue.getLast? = some p ∧ p.epoch = V.openEpoch ∧ p.sealTime = s.clock.now ∧ p.label = e.label ∧
            p.mark = s.journal.append) ∧
        t.sent = sealAnswers s e.waiters (.sealed e.volume V.openEpoch e.label) ∧
        (∀ h, t.heads.get h = if (s.heads.get h).link = .up ∧ (s.heads.get h).selectSealed then
          noticed notice (answered h) else answered h) ∧
        t.mlu = noticedMgmt notice mlu ∧
        ((.nightly ∉ e.waiters ∨ ∃ old, queuedTarget x.passQueue e.volume = some old ∧ V.openEpoch ≤ old) →
          t.channels = s.channels ∧ (EpochsDistinct made → leaves made [])) ∧
        (.nightly ∈ e.waiters → queuedTarget x.passQueue e.volume = none →
          t.channels = s.channels.set V.channel { x with passQueue := x.passQueue ++ [(e.volume, V.openEpoch)] } ∧
          (EpochsDistinct made → leaves (pinTaken V.openEpoch made) [])) ∧
        (∀ old p, .nightly ∈ e.waiters → queuedTarget x.passQueue e.volume = some old → old < V.openEpoch →
          findSnapshot V old = some p →
          t.channels = s.channels.set V.channel { x with
            passQueue := x.passQueue.map fun q => if q.1 = e.volume then (e.volume, V.openEpoch) else q } ∧
          (EpochsDistinct made → let d := pinDropped old p (pinTaken V.openEpoch made)
            leaves d.1 d.2))))

/-- R78, R79, Table 4-5: EXPIRE of an epoch with no record is NOT_LIVE; a LIVE snapshot without pins becomes EXPIRING
and joins the end of the expiry queue; one with pins gets its expire-pending flag and PENDING; an EXPIRING one is OK
and changes nothing. -/
def Obligations.ExpireDecides : Prop :=
  ∀ (s : State) (tag v e : Nat), Takes s .mgmt tag (.expire v e) → ∃ t, exec (.expire tag v e) s = .next t ∧
    let answered := fun c => t = { s with mlu := tookMgmt s tag, arb := t.arb, sent := mgmtReply 0x50 tag (.code c) }
    (volume? s v = none → answered .noVolume) ∧
    (∀ V, volume? s v = some V → findSnapshot V e = none → answered .notLive) ∧
    (∀ V p, volume? s v = some V → findSnapshot V e = some p → p.state = .expiring → answered .ok) ∧
    (∀ V p, volume? s v = some V → findSnapshot V e = some p → p.state = .live → p.pins = 0 →
      t = { s with volumes := t.volumes, epu.expiryQueue := s.epu.expiryQueue ++ [(v, e)], mlu := tookMgmt s tag,
                   arb := t.arb, sent := mgmtReply 0x50 tag (.code .ok) } ∧
      (∀ w, w ≠ v → look t.volumes w = look s.volumes w) ∧
      look t.volumes v = some { V with catalogue := V.catalogue.map fun q =>
        if q.epoch = e then { q with state := .expiring, expirePending := false } else q }) ∧
    (∀ V p, volume? s v = some V → findSnapshot V e = some p → p.state = .live → 0 < p.pins →
      t = { s with volumes := t.volumes, mlu := tookMgmt s tag, arb := t.arb, sent := mgmtReply 0x50 tag (.code .pending) } ∧
      (∀ w, w ≠ v → look t.volumes w = look s.volumes w) ∧
      look t.volumes v = some { V with catalogue := V.catalogue.map fun q =>
        if q.epoch = e then { q with expirePending := true } else q })

/-- R83, R85 to R91: a walk step goes on with the walk in progress, or begins one of the front snapshot (R88). Where
the chain of its volume is what is processed (P), what is left (M) and what joined since (A), it processes the first 32
records of M. Exactly those that the walked snapshot held and no LIVE snapshot holds become FREE, leave the chain and
are counted; every other extent keeps its record, chain links apart. F, the zone counts, the volume's held count and
the retained figures of their owners and groups follow (R6, R64, R90); the quota state of each owner is re-evaluated,
and each change sends one ACCOUNT_STATE to the management link and to every UP head that selects the kind (R31, R32),
in an order left open (notes/assumptions/17.md). With M used up the record leaves the catalogue, the snapshot leaves
the queue and WALK_DONE is placed; otherwise the walk stands at the next record. Nothing is appended to the journal.
The walk of a snapshot whose volume's chain is empty completes at its first step with both counts 0. R85, R92, R93:
after a RELINK step of a restore the records that stay RETAINED keep their order in their chain, and a walk in progress
there keeps what it has left (M) without the records that left it, and is finished when nothing is left. -/
def Obligations.WalkSteps : Prop :=
  (∀ (s : State) (w : Waiting) (k : Walk) (V : Volume), Granted s 6 → look s.arb.waiting 6 = some w →
      w.work = .sn .walkStep → Rising s.pool.extents → s.epu.expiryQueue ≠ [] → walkInHand s = some k →
      volume? s k.volume = some V → ∃ t, exec .walkStep s = .next t ∧
        (∀ W, s.epu.walk = some W → k = W) ∧
        (∀ v e rest, s.epu.walk = none → s.epu.expiryQueue = (v, e) :: rest →
          k = ⟨v, e, V.chainHead, V.chainTail, V.chainTail.isNone, 0, 0⟩) ∧
        t.journal = s.journal ∧ t.clock = s.clock ∧ t.settings = s.settings ∧ t.channels = s.channels ∧ t.rsq = s.rsq ∧
        t.dpu = s.dpu ∧ t.part = s.part ∧ t.pending = s.pending ∧ t.sent = [] ∧ t.epu.lastTurn = .walkStep ∧
        t.epu.sealQueue = s.epu.sealQueue ∧
        t.mlu = { s.mlu with notices := t.mlu.notices, missed := t.mlu.missed } ∧
        (∀ h, t.heads.get h = { s.heads.get h with
          notices := (t.heads.get h).notices, missed := (t.heads.get h).missed }) ∧
        ∀ P M A, ChainOf s k.volume V (P ++ M ++ A) → (∀ x ∈ s.pool.extents.map Prod.fst, x < s.pool.capacity) →
          (k.finished = true ↔ M = []) → (M ≠ [] → k.position = M.head? ∧ k.endMarker = M.getLast?) →
          ∃ F : List Nat, F.Sublist (M.take 32) ∧
            (∀ x o b sh d p q, x ∈ M.take 32 → look s.pool.extents x = some (.retained k.volume o b sh d p q) →
              (x ∈ F ↔ b ≤ k.epoch ∧ k.epoch < d ∧
                ∀ z ∈ V.catalogue, z.state = .live → ¬ (b ≤ z.epoch ∧ z.epoch < d))) ∧
            (∀ x ∈ F, look t.pool.extents x = none) ∧
            (∀ x, x ∉ F → (look t.pool.extents x).map withoutLinks = (look s.pool.extents x).map withoutLinks) ∧
            t.pool.free = s.pool.free + F.length ∧ FreedCounted s t ∧
            (let owners := F.filterMap fun x => (look s.pool.extents x).map ownerOf;
             (∀ n, figuresOf t n = figuresOf
               (owners.foldl (fun u o => changeFigures o (fun f => { f with retained := f.retained - 1 }) u) s) n) ∧
             (∀ n a, look s.accounts n = some a → ∃ b, look t.accounts n = some b ∧ b.percent = a.percent ∧
               b.stats = a.stats ∧ (n ∉ owners → b.body = a.body) ∧ (∀ g, a.body = .group g → b.body = a.body) ∧
               (∀ p, n ∈ owners → a.body = .person p →
                 b.body = .person { p with quota := nextQuota s.clock.now p (standingUse b) })) ∧
             ∃ told, QuotaChangesTold (· ∈ owners) s t told ∧ (∀ h, t.heads.get h = toldHeadAll told (s.heads.get h)) ∧
               t.mlu = noticedMgmtAll (told ++ if M.length ≤ 32
                 then [.walkDone k.volume k.epoch (k.visited + M.length) (k.freed + F.length)] else []) s.mlu) ∧
            (∀ v, v ≠ k.volume → look t.volumes v = look s.volumes v) ∧
            (∃ W, look t.volumes k.volume = some W ∧ ChainOf t k.volume W ((P ++ M ++ A).filter (· ∉ F)) ∧
              W = { V with
                held := V.held - F.length, chainHead := W.chainHead, chainTail := W.chainTail, chainCount := W.chainCount,
                catalogue := if M.length ≤ 32 then V.catalogue.filter (fun z => z.epoch ≠ k.epoch) else V.catalogue }) ∧
            (M.length ≤ 32 → t.epu.walk = none ∧ t.epu.expiryQueue = s.epu.expiryQueue.tail) ∧
            (32 < M.length → t.epu.expiryQueue = s.epu.expiryQueue ∧ t.epu.walk = some { k with
              position := M[32]?, visited := k.visited + 32, freed := k.freed + F.length })) ∧
  (∀ (s : State) (w : Waiting) (v e : Nat) (rest : List (Nat × Nat)) (V : Volume), Granted s 6 →
      look s.arb.waiting 6 = some w → w.work = .sn .walkStep → s.epu.walk = none → s.epu.expiryQueue = (v, e) :: rest →
      volume? s v = some V → V.chainHead = none → V.chainTail = none →
      ∃ t, exec .walkStep s = .next t ∧
        t = { s with volumes := t.volumes,
                     epu := { s.epu with expiryQueue := rest, lastTurn := .walkStep },
                     mlu := noticedMgmt (.walkDone v e 0 0) s.mlu, arb := t.arb, sent := [] } ∧
        look t.volumes v = some { V with catalogue := V.catalogue.filter fun p => p.epoch ≠ e }) ∧
  (∀ (s : State) (w : Waiting) (c : Context), Granted s 5 → look s.arb.waiting 5 = some w → w.work = .restoreStep →
      servedContext s = some c → c.cancel = false → c.stage = .relink → ∃ t, exec .restoreStep s = .next t ∧
        (∀ v V P M A, ChainsWell s → look s.volumes v = some V → ChainOf s v V (P ++ M ++ A) →
          let stays := fun x => ((look t.pool.extents x).map isRetained).getD false
          (∃ W, look t.volumes v = some W ∧ ChainOf t v W ((P ++ M ++ A).filter stays)) ∧
          ∀ k, s.epu.walk = some k → k.volume = v → (k.finished = true ↔ M = []) →
            (M ≠ [] → k.position = M.head? ∧ k.endMarker = M.getLast?) →
            ∃ k', t.epu.walk = some k' ∧
              k' = { k with position := k'.position, endMarker := k'.endMarker, finished := (M.filter stays).isEmpty } ∧
              (M.filter stays ≠ [] →
                k'.position = (M.filter stays).head? ∧ k'.endMarker = (M.filter stays).getLast?)))

/-! ## Restores (Chapter 6) -/

/-- R96, R97: RESTORE on the management link and on a head's: the checks of Table 6-1 in their order, and a context with
the lowest free number at the end of the list, which pins its snapshot; the tag stays in use.
R108: CANCEL_RESTORE sets the cancel flag of the context of its link with the tag named, for a head under its present
incarnation, and answers OK; with no such context it answers UNKNOWN_RESTORE. -/
def Obligations.RestoreRequests : Prop :=
  (∀ (s : State) (tag : Nat) (r : RestoreRequest),
      let accepts := fun (mode : RestoreMode) => ∃ a p V q,
        account? s r.target = some a ∧ a.body = .person p ∧
        (∀ m, r.source = some m → ∃ b q, account? s m = some b ∧ b.body = .person q) ∧
        volume? s r.volume = some V ∧ findSnapshot V r.epoch = some q ∧ q.state = .live ∧
        s.rsq.contexts.length < 16 ∧ r.extents ≠ [] ∧ r.extents.length ≤ 256 ∧ restoreMode r.mode = some mode
      let entered := fun (t : State) (mode : RestoreMode) (by_ : Submitter) =>
        (∀ V, volume? s r.volume = some V → look t.volumes r.volume = some { V with catalogue := V.catalogue.map fun z =>
          if z.epoch = r.epoch then { z with pins := z.pins + 1 } else z }) ∧
        (∀ v, v ≠ r.volume → look t.volumes v = look s.volumes v) ∧
        t.rsq.service = s.rsq.service ∧
        ∃ i, t.rsq.contexts = s.rsq.contexts ++ [⟨i, by_, tag, r.target, r.source, r.volume, r.epoch, mode,
            r.extents.map fun x => ⟨x, .unclassified⟩, .verify, 0, 0, 0, none, false⟩] ∧
          i < 16 ∧ (∀ c ∈ s.rsq.contexts, c.id ≠ i) ∧ ∀ j, j < i → ∃ c ∈ s.rsq.contexts, c.id = j
      let table := fun (answered : Code → Prop) =>
        ((r.extents = [] ∨ 256 < r.extents.length ∨ 2 ≤ r.mode) → answered .badArgument) ∧
        (r.extents ≠ [] → r.extents.length ≤ 256 → r.mode < 2 →
          (account? s r.target = none → answered .noAccount) ∧
          (∀ a g, account? s r.target = some a → a.body = .group g → answered .notPerson) ∧
          ∀ a p, account? s r.target = some a → a.body = .person p →
            (∀ m, r.source = some m → account? s m = none → answered .noAccount) ∧
            (∀ m b g, r.source = some m → account? s m = some b → b.body = .group g → answered .notPerson) ∧
            ((∀ m, r.source = some m → ∃ b q, account? s m = some b ∧ b.body = .person q) →
              (volume? s r.volume = none → answered .noVolume) ∧
              ∀ V, volume? s r.volume = some V →
                ((findSnapshot V r.epoch = none ∨ ∃ q, findSnapshot V r.epoch = some q ∧ q.state = .expiring) →
                  answered .notLive) ∧
                (∀ q, findSnapshot V r.epoch = some q → q.state = .live → 16 ≤ s.rsq.contexts.length →
                  answered .contextsFull)))
      (Takes s .mgmt tag (.restore r) → ∃ t, exec (.restore .mgmt tag r) s = .next t ∧
        table (fun c => t = { s with mlu := tookMgmt s tag, arb := t.arb, sent := mgmtReply 0x15 tag (.code c) }) ∧
        (∀ mode, accepts mode →
          t = { s with volumes := t.volumes, rsq := t.rsq, mlu := heldMgmt s, arb := t.arb, sent := [] } ∧
          entered t mode .mgmt)) ∧
      (∀ h, TakesUp s h tag (.restore r) → ∃ t, exec (.restore (.head h) tag r) s = .next t ∧
        table (fun c => t = { s with heads := s.heads.set h (tookHead tag (s.heads.get h)), arb := t.arb,
                                     sent := headReply 0x15 s h tag (.code c) }) ∧
        (∀ mode, accepts mode →
          t = { s with volumes := t.volumes, rsq := t.rsq, heads := s.heads.set h (heldHead (s.heads.get h)),
                       arb := t.arb, sent := [] } ∧
          entered t mode (.head h (s.heads.get h).incarnation)))) ∧
  (∀ (s : State) (tag restoreTag : Nat),
      (Takes s .mgmt tag (.cancelRestore restoreTag) → ∃ t, exec (.cancelRestore .mgmt tag restoreTag) s = .next t ∧
        ((∃ c ∈ s.rsq.contexts, c.tag = restoreTag ∧ c.submitter = .mgmt) →
          t = { s with rsq.contexts := s.rsq.contexts.map fun c =>
                         if c.tag = restoreTag ∧ c.submitter = .mgmt then { c with cancel := true } else c,
                       mlu := tookMgmt s tag, arb := t.arb, sent := mgmtReply 0x16 tag (.code .ok) }) ∧
        ((∀ c ∈ s.rsq.contexts, ¬ (c.tag = restoreTag ∧ c.submitter = .mgmt)) →
          t = { s with mlu := tookMgmt s tag, arb := t.arb, sent := mgmtReply 0x16 tag (.code .unknownRestore) })) ∧
      (∀ h, TakesUp s h tag (.cancelRestore restoreTag) → ∃ t, exec (.cancelRestore (.head h) tag restoreTag) s = .next t ∧
        let submitter := Submitter.head h (s.heads.get h).incarnation
        ((∃ c ∈ s.rsq.contexts, c.tag = restoreTag ∧ c.submitter = submitter) →
          t = { s with rsq.contexts := s.rsq.contexts.map fun c =>
                         if c.tag = restoreTag ∧ c.submitter = submitter then { c with cancel := true } else c,
                       heads := s.heads.set h (tookHead tag (s.heads.get h)), arb := t.arb,
                       sent := headReply 0x16 s h tag (.code .ok) }) ∧
        ((∀ c ∈ s.rsq.contexts, ¬ (c.tag = restoreTag ∧ c.submitter = submitter)) →
          t = { s with heads := s.heads.set h (tookHead tag (s.heads.get h)), arb := t.arb,
                       sent := headReply 0x16 s h tag (.code .unknownRestore) })))

/-- R98: a step serves the context at the service pointer, or the front of the list, also where the pointer names none
of it (deduced: notes/assumptions/19.md), and the pointer moves on to the next one or the front; with no context the
turn changes nothing.
R99, Table 6-4: the class of a place; a VERIFY step classes up to 64 places from the cursor and changes no table. R30,
R101, R102: a charge takes the lesser of the own and any group headroom, OWN_LIMIT first. In ALL_OR_NONE mode
HELD_RETAINED places above it refuse the context with the limiting term's code; in AS_FITS mode the lesser is admitted,
the first places in list order, the later ones become OVER_QUOTA, and that much hold is taken; a charge that admits 0
ends the context with OK.
R104, R105: a RELINK step settles the places marked HELD_RETAINED from the cursor onward, in list order, at most 32,
and passes over the others. A RETAINED extent becomes LIVE for the target in the open epoch with its birth epoch, and
its place RELINKED; a LIVE extent stays, and its place is ALREADY_LIVE; no other extent is changed but for chain links.
The previous owners' retained figures fall, the target's used figure rises by the number relinked and its hold, like
the context's, falls by the number handled; the restores-in statistic rises; the BIRTH entries are appended in runs; F,
the zone counts and the held counts stay; once something was relinked the quota states concerned are re-evaluated and
each change told (R31, R32), in an order left open (notes/assumptions/17.md). The step's places lie, by R100, on
extents that are LIVE or RETAINED. R78, R97, R106, R107, R110, R171: a context ends with OK when no HELD_RETAINED place
is left; one that ends drops its pin, and its reply goes to its submitter, where its tag leaves use; the step of a
context with its cancel flag SET returns its hold and ends it with CANCELLED. -/
def Obligations.RestoreStages : Prop :=
  (∀ (s : State) (w : Waiting), Granted s 5 → look s.arb.waiting 5 = some w → w.work = .restoreStep →
      ∃ t, exec .restoreStep s = .next t ∧
        (s.rsq.contexts = [] → t = { s with arb := t.arb, sent := [] }) ∧
        ∀ (before after : List Context) (c : Context), s.rsq.contexts = before ++ c :: after →
          (s.rsq.contexts.map (·.id)).Nodup →
          (servedContext s = some c ↔ s.rsq.service = some c.id ∨
            (before = [] ∧ ∀ d ∈ s.rsq.contexts, s.rsq.service ≠ some d.id)) ∧
          (servedContext s = some c → t.rsq.service = after.head?.map (·.id))) ∧
  (∀ (s : State) (c : Context) (x : Nat),
      let marked := classify s c x
      (marked = .heldLive ↔ ∃ b h, extentAt s.pool x = some (.live c.volume c.target b h) ∧ b ≤ c.epoch) ∧
      (marked = .inUse ↔ ∃ o b h, extentAt s.pool x = some (.live c.volume o b h) ∧ b ≤ c.epoch ∧ o ≠ c.target) ∧
      (marked = .heldRetained ↔ ∃ o b h d p q, extentAt s.pool x = some (.retained c.volume o b h d p q) ∧
        b ≤ c.epoch ∧ c.epoch < d ∧ ∀ n, c.source = some n → o = n) ∧
      (marked = .notHeld ↔ marked ≠ .heldLive ∧ marked ≠ .inUse ∧ marked ≠ .heldRetained)) ∧
  (∀ (s : State) (n : Nat) (a : Account) (p : Person), account? s n = some a → a.body = .person p →
      let headroom := (chargeTerms s n).1
      let term := (chargeTerms s n).2
      headroom ≤ ownHeadroom a p ∧ (∀ g, groupHeadroom s p = some g → headroom ≤ g) ∧
      (headroom = ownHeadroom a p ∨ groupHeadroom s p = some headroom) ∧
      (headroom = ownHeadroom a p → term = .ownLimit) ∧ (headroom ≠ ownHeadroom a p → term = .groupLimit)) ∧
  (∀ (k : Nat) (places : List Place), (keepFirst k places).length = places.length ∧
      ∀ (i : Nat) (p : Place), places[i]? = some p →
        (p.mark ≠ .heldRetained ∨ countMark .heldRetained (places.take i) < k → (keepFirst k places)[i]? = some p) ∧
        (p.mark = .heldRetained → k ≤ countMark .heldRetained (places.take i) →
          (keepFirst k places)[i]? = some ⟨p.extent, .overQuota⟩)) ∧
  (∀ (s : State) (w : Waiting) (c : Context), Granted s 5 → look s.arb.waiting 5 = some w → w.work = .restoreStep →
      servedContext s = some c → c.cancel = false → c.stage = .verify → ∃ t, exec .restoreStep s = .next t ∧
        t = { s with rsq := t.rsq, arb := t.arb, sent := [] } ∧
        t.rsq.contexts = s.rsq.contexts.map fun d => if d.id = c.id then { c with
          places := c.places.take c.cursor ++
            ((c.places.drop c.cursor).take 64).map (fun p => ⟨p.extent, classify s c p.extent⟩) ++
            c.places.drop (c.cursor + 64)
          cursor := min (c.cursor + 64) c.places.length
          stage := if c.places.length ≤ c.cursor + 64 then .charge else .verify } else d) ∧
  (∀ (s : State) (w : Waiting) (c : Context), Granted s 5 → look s.arb.waiting 5 = some w → w.work = .restoreStep →
      servedContext s = some c → c.cancel = false → c.stage = .charge → ∃ t, exec .restoreStep s = .next t ∧
        let r := countMark .heldRetained c.places
        let headroom := (chargeTerms s c.target).1
        let a := if c.mode = .allOrNone then r else min r headroom
        let result : ChargeResult := ⟨headroom, if headroom < r then some (chargeTerms s c.target).2 else none⟩
        let ended := t.rsq.contexts = s.rsq.contexts.filter (fun d => d.id ≠ c.id) ∧ t.accounts = s.accounts ∧
          (∀ h, t.heads.get h = answeredHead c h (s.heads.get h)) ∧ t.mlu = answeredMgmt c s.mlu ∧
          (∀ v, v ≠ c.volume → look t.volumes v = look s.volumes v) ∧
          ∀ V z, volume? s c.volume = some V → findSnapshot V c.epoch = some z → EpochsDistinct V →
            look t.volumes c.volume = some (pinDropped c.epoch z V).1 ∧
            t.epu.expiryQueue = s.epu.expiryQueue ++ (pinDropped c.epoch z V).2.map fun n => (c.volume, n)
        t = { s with accounts := t.accounts, volumes := t.volumes, heads := t.heads, mlu := t.mlu,
                     epu.expiryQueue := t.epu.expiryQueue, rsq := t.rsq, arb := t.arb, sent := t.sent } ∧
        (c.mode = .allOrNone → headroom < r →
          ended ∧ t.sent = restoreAnswer s c (chargeTerms s c.target).2 (some result) (keepFirst 0 c.places)) ∧
        (a = 0 → (c.mode = .allOrNone → r ≤ headroom) →
          ended ∧ t.sent = restoreAnswer s c .ok (some result) (keepFirst 0 c.places)) ∧
        (0 < a → (c.mode = .allOrNone → r ≤ headroom) →
          t.rsq.contexts = s.rsq.contexts.map (fun d => if d.id = c.id then { c with
            places := keepFirst a c.places, charge := some result
            admitted := a, hold := a, cursor := 0, stage := .relink } else d) ∧
          t = { s with accounts := (changeFigures c.target (fun f => { f with hold := f.hold + a }) s).accounts,
                       rsq := t.rsq, arb := t.arb, sent := [] })) ∧
  (∀ (s : State) (w : Waiting) (c : Context), Granted s 5 → look s.arb.waiting 5 = some w → w.work = .restoreStep →
      servedContext s = some c → c.cancel = false → c.stage = .relink → ∃ t, exec .restoreStep s = .next t ∧
        t.pool = { s.pool with extents := t.pool.extents } ∧
        (∀ v, (look t.volumes v).map (fun V => (V.held, V.openEpoch, V.lastSeal, V.keep, V.spacing, V.nightly, V.channel,
            V.shippedBase)) =
          (look s.volumes v).map fun V => (V.held, V.openEpoch, V.lastSeal, V.keep, V.spacing, V.nightly, V.channel,
            V.shippedBase)) ∧
        t.clock = s.clock ∧ t.settings = s.settings ∧ t.dpu = s.dpu ∧ t.part = s.part ∧
        t.epu = { s.epu with walk := t.epu.walk, expiryQueue := t.epu.expiryQueue } ∧
        ∀ done rest, c.places.drop c.cursor = done ++ rest → countMark .heldRetained done ≤ 32 →
          ((rest ≠ [] ∨ countMark .heldRetained done = 32) →
            countMark .heldRetained done = 32 ∧ done.getLast?.map (·.mark) = some .heldRetained) →
          (∀ p ∈ done, p.mark = .heldRetained → ∃ e, extentAt s.pool p.extent = some e ∧ isReserved e = false) →
          let k := countMark .heldRetained done
          let made := (List.range done.length).filterMap (relinkedAt s done)
          let places := c.places.take c.cursor ++ (List.range done.length).filterMap (settledAt s done) ++ rest
          let u := appendChanges ((List.range done.length).filterMap (birthAt s done)) s
          (∀ g ∈ made, look t.pool.extents g.extent = some (.live g.volume c.target g.birth (openEpoch s g.volume))) ∧
          (∀ x, (∀ g ∈ made, g.extent ≠ x) →
            (look t.pool.extents x).map withoutLinks = (look s.pool.extents x).map withoutLinks) ∧
          t.journal = u.journal ∧ t.channels = u.channels ∧ t.pending = s.pending ∧
          (∀ v, (look t.volumes v).map (fun V => { V with
              catalogue := [], chainHead := none, chainTail := none, chainCount := 0 }) =
            (look u.volumes v).map fun V => { V with
              catalogue := [], chainHead := none, chainTail := none, chainCount := 0 }) ∧
          (∀ n, figuresOf t n = figuresOf
            (changeFigures c.target (fun f => { f with used := f.used + made.length, hold := f.hold - k })
              (made.foldl (fun s g => changeFigures g.owner (fun f => { f with retained := f.retained - 1 }) s) s)) n) ∧
          (∀ n, (look t.accounts n).map (·.stats) = (look (if made = [] then s else
            changeStats c.target (fun x => { x with restoresIn := satAdd x.restoresIn made.length }) s).accounts n).map
              (·.stats)) ∧
          (let touched := fun n => made ≠ [] ∧ (n = c.target ∨ ∃ g ∈ made, g.owner = n);
           (∀ n a, look s.accounts n = some a → ∃ b, look t.accounts n = some b ∧ b.percent = a.percent ∧
             (¬ touched n → b.body = a.body) ∧ (∀ g, a.body = .group g → b.body = a.body) ∧
             (∀ p, touched n → a.body = .person p →
               b.body = .person { p with quota := nextQuota s.clock.now p (standingUse b) })) ∧
           ∃ told, QuotaChangesTold touched s t told ∧
             (∀ h, t.heads.get h = toldHeadAll told
               (if ∃ p ∈ rest, p.mark = .heldRetained then s.heads.get h else answeredHead c h (s.heads.get h))) ∧
             t.mlu = noticedMgmtAll told
               (if ∃ p ∈ rest, p.mark = .heldRetained then u.mlu else answeredMgmt c u.mlu)) ∧
          ((∃ p ∈ rest, p.mark = .heldRetained) →
            t.rsq.contexts = s.rsq.contexts.map (fun d => if d.id = c.id then { c with
              places := places, cursor := c.places.length - rest.length, hold := c.hold - k } else d) ∧
            t.sent = [] ∧ t.epu.expiryQueue = s.epu.expiryQueue ∧
            ∀ v, (look t.volumes v).map (·.catalogue) = (look u.volumes v).map (·.catalogue)) ∧
          ((∀ p ∈ rest, p.mark ≠ .heldRetained) →
            t.rsq.contexts = s.rsq.contexts.filter (fun d => d.id ≠ c.id) ∧
            t.sent = restoreAnswer s c .ok c.charge places ∧
            (∀ v, v ≠ c.volume → (look t.volumes v).map (·.catalogue) = (look u.volumes v).map (·.catalogue)) ∧
            ∀ V z, volume? u c.volume = some V → findSnapshot V c.epoch = some z → EpochsDistinct V →
              (look t.volumes c.volume).map (·.catalogue) = some (pinDropped c.epoch z V).1.catalogue ∧
              t.epu.expiryQueue = s.epu.expiryQueue ++ (pinDropped c.epoch z V).2.map fun n => (c.volume, n))) ∧
  (∀ (s : State) (w : Waiting) (c : Context), Granted s 5 → look s.arb.waiting 5 = some w → w.work = .restoreStep →
      servedContext s = some c → c.cancel = true → ∃ t, exec .restoreStep s = .next t ∧
        t.rsq.contexts = s.rsq.contexts.filter (fun d => d.id ≠ c.id) ∧
        t.accounts = (changeFigures c.target (fun f => { f with hold := f.hold - c.hold }) s).accounts ∧
        (∀ V z, volume? s c.volume = some V → findSnapshot V c.epoch = some z → EpochsDistinct V →
          look t.volumes c.volume = some (pinDropped c.epoch z V).1 ∧
          t.epu.expiryQueue = s.epu.expiryQueue ++ (pinDropped c.epoch z V).2.map fun n => (c.volume, n)) ∧
        t = { s with accounts := t.accounts, volumes := t.volumes, heads := t.heads, mlu := t.mlu,
                     epu.expiryQueue := t.epu.expiryQueue, rsq := t.rsq, arb := t.arb, sent := t.sent } ∧
        (∀ h, t.heads.get h = answeredHead c h (s.heads.get h)) ∧ t.mlu = answeredMgmt c s.mlu ∧
        (∀ v, v ≠ c.volume → look t.volumes v = look s.volumes v) ∧
        t.sent = restoreAnswer s c .cancelled c.charge c.places)

/-! ## The window and the passes (Chapter 7) -/

/-- R113: the window that the times give, and the remaining window time. R113, R114, R147, R168: SET_WINDOW stores both
times or refuses one above 86,399. The turn of a window event that finds the two to differ takes the window given, sets
the slot pointer to 0, and suspends, or returns from suspension, the channels as R147 gives; an open event enters the
nightly trigger of every volume whose flag is ON, in ascending order (R70): a new entry of label 0 at the end of the
seal queue, or the end of the waiters of the volume's entry, or nothing where it waits already; an entry with 8 waiters
is not changed, and NIGHTLY_SKIPPED with BUSY is placed. One that finds them equal changes nothing. An accepted
SET_WINDOW makes the comparison of R114 with the new times (notes/assumptions/25.md). The premises of the seal queue's
clause are parts of `TablesCanonical` and `QueuesBounded`. -/
def Obligations.WindowTurns : Prop :=
  (∀ now opens closes : Nat, windowGiven now opens closes = .open_ ↔
    (opens < closes ∧ opens ≤ now % 86400 ∧ now % 86400 < closes) ∨
    (closes < opens ∧ (opens ≤ now % 86400 ∨ now % 86400 < closes))) ∧
  (∀ s : State, s.given = windowGiven s.clock.now s.settings.windowOpen s.settings.windowClose ∧
    (s.clock.window = .closed ∨ s.given = .closed → remainingWindow s = 0) ∧
    (s.clock.window = .open_ → s.given = .open_ →
      remainingWindow s = (s.settings.windowClose + 86400 - s.clock.now % 86400) % 86400)) ∧
  (∀ (s : State) (tag opens closes : Nat), Takes s .mgmt tag (.setWindow opens closes) →
    ∃ t, exec (.setWindow tag opens closes) s = .next t ∧
    ((86399 < opens ∨ 86399 < closes) →
      t = { s with mlu := tookMgmt s tag, arb := t.arb, sent := mgmtReply 0x52 tag (.code .badArgument) }) ∧
    (opens ≤ 86399 → closes ≤ 86399 →
      t = { s with settings := { s.settings with windowOpen := opens, windowClose := closes },
                   clock := { s.clock with windowDue := t.clock.windowDue }, mlu := tookMgmt s tag, arb := t.arb,
                   sent := mgmtReply 0x52 tag (.window opens closes) } ∧
      WindowCompared s.clock.windowDue t)) ∧
  ∀ (s : State) (w : Waiting), Granted s 8 → look s.arb.waiting 8 = some w → w.work = .ck .window →
    ∃ t, exec .windowEvent s = .next t ∧ t.sent = [] ∧
    (s.given = s.clock.window → t = { s with arb := t.arb, sent := [] }) ∧
    (s.given = .closed → s.clock.window = .open_ →
      t = { s with clock := { s.clock with window := .closed, windowDue := none }, channels := t.channels, arb := t.arb,
                   sent := [] } ∧
      t.arb.slotPointer = 0 ∧
      ∀ c, let x := s.channels.get c
        let y := t.channels.get c
        (x.settings.windowOverride = true → y = x) ∧
        (x.settings.windowOverride = false → x.state = .streaming → x.outstanding = none →
          y = { x with state := .suspended .streaming, suspendPending := false, probeDue := none }) ∧
        (x.settings.windowOverride = false → x.state = .probing → x.outstanding = none →
          y = { x with state := .suspended .probing, suspendPending := false, probeDue := none }) ∧
        (∀ o, x.settings.windowOverride = false → (x.state = .streaming ∨ x.state = .probing) → x.outstanding = some o →
          y = { x with suspendPending := true }) ∧
        (x.state ≠ .streaming → x.state ≠ .probing → y = x)) ∧
    (s.given = .open_ → s.clock.window = .closed →
      t = { s with clock := { s.clock with window := .open_, windowDue := none }, epu := t.epu, mlu := t.mlu,
                   channels := t.channels, arb := t.arb, sent := [] } ∧
      t.arb.slotPointer = 0 ∧
      (∀ v V, (v, V) ∈ s.volumes → V.nightly = true →
        ∃ e ∈ t.epu.sealQueue, e.volume = v ∧ (.nightly ∈ e.waiters ∨ 8 ≤ e.waiters.length)) ∧
      (Rising s.volumes → (s.epu.sealQueue.map (·.volume)).Nodup →
        let triggered := fun v => ((look s.volumes v).map (·.nightly)).getD false
        let waits := fun (e : SealEntry) => e.waiters.contains .nightly
        t.epu = { s.epu with sealQueue :=
          (s.epu.sealQueue.map fun e => if triggered e.volume ∧ ¬ waits e ∧ e.waiters.length < 8
            then { e with waiters := e.waiters ++ [.nightly] } else e) ++
          (s.volumes.filter fun x => x.2.nightly && s.epu.sealQueue.all fun e => e.volume ≠ x.1).map fun x =>
            ⟨x.1, 0, [.nightly]⟩ } ∧
        t.mlu = ((s.volumes.filter fun x => x.2.nightly && s.epu.sealQueue.any fun e =>
          e.volume = x.1 && !waits e && 8 ≤ e.waiters.length).map fun x => Notice.nightlySkipped x.1 .busy).foldl
            (fun M n => noticedMgmt n M) s.mlu) ∧
      ∀ c, let x := s.channels.get c
        let y := t.channels.get c
        (x.state = .suspended .streaming → y = { x with state := .streaming }) ∧
        (x.state = .suspended .probing → y = { x with state := .probing, probeDue := some s.clock.now }) ∧
        ((∀ p, x.state ≠ .suspended p) → y = { x with suspendPending := false }))

/-- R118: with no target given the target is the newest LIVE snapshot. R117, R118, R119: START_PASS refuses an
undefined volume, a volume or epoch without a LIVE snapshot, and a target at or below the shipped base; otherwise it
enters the volume in its channel's queue, or raises the queued target in its place, or leaves a target at or above its
own, and answers the kept target with the merged indication. WITHDRAW_PASS removes the entry and answers its target, or
NO_ENTRY.
R77, R78: an entry pins its target; a raised one pins the new target and drops the pin of the old, and a withdrawn one
drops its pin. At the last pin of a snapshot it becomes EXPIRING when its expire-pending flag is SET, a rotation check
follows, and what expires joins the end of the expiry queue. That NOT_LIVE comes before NOT_NEWER is the model's choice
(notes/assumptions/47.md). -/
def Obligations.PassRequests : Prop :=
  (∀ V : Volume, (V.catalogue.map (·.epoch)).Pairwise (· < ·) → ∀ e,
    (passTarget V none = some e ↔ ∃ p ∈ V.catalogue, p.state = .live ∧ p.epoch = e ∧
      ∀ q ∈ V.catalogue, q.state = .live → q.epoch ≤ e) ∧
    ∀ d, passTarget V (some d) = some e ↔ d = e ∧ ∃ p, findSnapshot V e = some p ∧ p.state = .live) ∧
  (∀ (s : State) (tag v : Nat) (target : Option Nat), Takes s .mgmt tag (.startPass v target) →
    ∃ t, exec (.startPass tag v target) s = .next t ∧
    let refused := fun c => t = { s with mlu := tookMgmt s tag, arb := t.arb, sent := mgmtReply 0x53 tag (.code c) }
    (volume? s v = none → refused .noVolume) ∧
    (∀ V, volume? s v = some V → target = none → (∀ p ∈ V.catalogue, p.state = .expiring) → refused .notLive) ∧
    (∀ V e, volume? s v = some V → target = some e →
      (findSnapshot V e = none ∨ ∃ p, findSnapshot V e = some p ∧ p.state = .expiring) → refused .notLive) ∧
    (∀ V e, volume? s v = some V → passTarget V target = some e → e ≤ V.shippedBase → refused .notNewer) ∧
    (∀ V e, volume? s v = some V → passTarget V target = some e → V.shippedBase < e →
      let x := s.channels.get V.channel
      (queuedTarget x.passQueue v = none →
        t = { s with volumes := t.volumes,
                     channels := s.channels.set V.channel { x with passQueue := x.passQueue ++ [(v, e)] },
                     mlu := tookMgmt s tag, arb := t.arb, sent := mgmtReply 0x53 tag (.passEntered e false) } ∧
        (∀ w, w ≠ v → look t.volumes w = look s.volumes w) ∧
        look t.volumes v = some { V with catalogue := V.catalogue.map fun p =>
          if p.epoch = e then { p with pins := p.pins + 1 } else p }) ∧
      (∀ old, queuedTarget x.passQueue v = some old → old < e →
        t = { s with volumes := t.volumes, epu.expiryQueue := t.epu.expiryQueue,
                     channels := s.channels.set V.channel { x with
                       passQueue := x.passQueue.map fun p => if p.1 = v then (v, e) else p },
                     mlu := tookMgmt s tag, arb := t.arb, sent := mgmtReply 0x53 tag (.passEntered e true) } ∧
        (∀ w, w ≠ v → look t.volumes w = look s.volumes w) ∧
        (∀ p, findSnapshot V old = some p → EpochsDistinct V →
          look t.volumes v = some (pinDropped old p (pinTaken e V)).1 ∧
          t.epu.expiryQueue = s.epu.expiryQueue ++ (pinDropped old p (pinTaken e V)).2.map fun z => (v, z))) ∧
      (∀ old, queuedTarget x.passQueue v = some old → e ≤ old →
        t = { s with mlu := tookMgmt s tag, arb := t.arb, sent := mgmtReply 0x53 tag (.passEntered old true) }))) ∧
  ∀ (s : State) (tag v : Nat), Takes s .mgmt tag (.withdrawPass v) →
    ∃ t, exec (.withdrawPass tag v) s = .next t ∧
    ((volume? s v = none ∨ ∃ V, volume? s v = some V ∧ queuedTarget (s.channels.get V.channel).passQueue v = none) →
      t = { s with mlu := tookMgmt s tag, arb := t.arb, sent := mgmtReply 0x54 tag (.code .noEntry) }) ∧
    (∀ V e, volume? s v = some V → queuedTarget (s.channels.get V.channel).passQueue v = some e →
      t = { s with volumes := t.volumes, epu.expiryQueue := t.epu.expiryQueue,
                   channels := s.channels.set V.channel { s.channels.get V.channel with
                     passQueue := (s.channels.get V.channel).passQueue.filter fun p => p.1 ≠ v },
                   mlu := tookMgmt s tag, arb := t.arb, sent := mgmtReply 0x54 tag (.withdrawn e) } ∧
      (∀ w, w ≠ v → look t.volumes w = look s.volumes w) ∧
      (∀ p, findSnapshot V e = some p → EpochsDistinct V →
        look t.volumes v = some (pinDropped e p V).1 ∧
        t.epu.expiryQueue = s.epu.expiryQueue ++ (pinDropped e p V).2.map fun z => (v, z)))

/-- R121, R122, R131: the turn of a pass start takes the front entry: at or below the shipped base it is discarded with
PASS_SKIPPED; otherwise the pass takes its id from the counter, its mode by R122 and its cursor, and the channel is
STREAMING with OPEN_PASS queued, or STOPPED with NO_STAGING and its CHANNEL_STOPPED notice (R135) when it has no slot.
That a pass stopped so has phase OPEN is DEDUCED (notes/assumptions/28.md), and that a DELTA pass has no end mark yet
is the model's choice (notes/assumptions/43.md). The turn of a completion sets the shipped base and ship mark, clears
needs-rebase, makes the channel IDLE and sends PASS_DONE. R78: a skipped entry and a completed pass drop the pin of
their target, and a started pass takes over the pin of its entry: no pin count changes. A turn whose work is no longer
ready for its channel changes nothing (notes/assumptions/7.md). -/
def Obligations.PassTurns : Prop :=
  (∀ (s : State) (c : ChanId) (k : DpWork), dpReady s c = some k ↔ HasReady s c k) ∧
  ∀ (s : State) (w : Waiting) (c : ChanId), Granted s 7 → look s.arb.waiting 7 = some w →
    let x := s.channels.get c
    (w.work = .dp c .start → dpReady s c = some .start → ∀ v e q V, x.passQueue = (v, e) :: q → volume? s v = some V →
      ∃ t, exec .passStart s = .next t ∧ t.dpu.lastServed = c ∧ (t.channels.get c).passQueue = q ∧
      t.pool = s.pool ∧ t.journal = s.journal ∧ t.accounts = s.accounts ∧ t.clock = s.clock ∧ t.rsq = s.rsq ∧
      (∀ d, d ≠ c → t.channels.get d = s.channels.get d) ∧
      t = { s with settings := t.settings, volumes := t.volumes, channels := t.channels, epu.expiryQueue := t.epu.expiryQueue,
                   mlu := t.mlu, dpu.lastServed := c, arb := t.arb, sent := [] } ∧
      (∀ u, u ≠ v → look t.volumes u = look s.volumes u) ∧
      (e ≤ V.shippedBase → t.settings = s.settings ∧ t.channels.get c = { x with passQueue := q } ∧
        (∀ z, findSnapshot V e = some z → EpochsDistinct V →
          look t.volumes v = some (pinDropped e z V).1 ∧
          t.epu.expiryQueue = s.epu.expiryQueue ++ (pinDropped e z V).2.map fun n => (v, n)) ∧
        t.mlu = noticedMgmt (.passSkipped c v e) s.mlu) ∧
      (V.shippedBase < e →
        t.settings = { s.settings with
          passCounter := if s.settings.passCounter = 4294967295 then 1 else s.settings.passCounter + 1 } ∧
        look t.volumes v = some { V with
          needsRebase := V.needsRebase || decide (V.shippedBase ≠ 0 ∧ V.shipMark < s.journal.oldest) } ∧ t.epu = s.epu ∧
        (∃ p, (t.channels.get c).pass = some p ∧ p.id = s.settings.passCounter ∧ p.volume = v ∧ p.target = e ∧
          p.base = V.shippedBase ∧ p.phase = .open_ ∧ p.carries = 0 ∧ p.drops = 0 ∧ p.seq = 1 ∧ p.stall = .none ∧
          p.closeAccepted = false ∧
          ((V.shippedBase = 0 ∨ V.needsRebase = true ∨ V.shipMark < s.journal.oldest) →
            p.mode = .rebase ∧ p.cursor = 0 ∧ p.endMark = (findSnapshot V e).map (·.mark)) ∧
          (V.shippedBase ≠ 0 → V.needsRebase = false → s.journal.oldest ≤ V.shipMark →
            p.mode = .delta ∧ p.cursor = V.shipMark ∧ p.offset = 0 ∧ p.endMark = none)) ∧
        (x.staging ≠ [] → (t.channels.get c).state = .streaming ∧ (t.channels.get c).queue = [.openPass] ∧
          (t.channels.get c).batch = [] ∧ t.mlu = s.mlu ∧ t.channels.get c = { x with
            passQueue := q, pass := (t.channels.get c).pass, state := .streaming, queue := [.openPass], batch := [] }) ∧
        (x.staging = [] → (t.channels.get c).state = .stopped ∧ (t.channels.get c).condition = .noStaging ∧
          (t.channels.get c).queue = [] ∧ t.channels.get c = { x with
            passQueue := q, pass := (t.channels.get c).pass, state := .stopped, condition := .noStaging, queue := [],
            batch := [], outstanding := none, deadline := none, probeDue := none, suspendPending := false, failures := 0 } ∧
          t.mlu = noticedMgmt (.channelStopped c s.settings.passCounter v .noStaging) s.mlu))) ∧
    (w.work = .dp c .complete → dpReady s c = some .complete → ∀ p V, x.pass = some p → volume? s p.volume = some V →
      ∃ t, exec .passCompletion s = .next t ∧ t.dpu.lastServed = c ∧
        (∃ W, look t.volumes p.volume = some W ∧ W.shippedBase = p.target ∧ W.shipMark = p.endMark.getD 0 ∧
          W.needsRebase = false ∧ W.openEpoch = V.openEpoch) ∧
        (∀ z, findSnapshot V p.target = some z → EpochsDistinct V →
          let shipped := { V with shippedBase := p.target, shipMark := p.endMark.getD 0, needsRebase := false }
          look t.volumes p.volume = some (pinDropped p.target z shipped).1 ∧
          t.epu.expiryQueue = s.epu.expiryQueue ++ (pinDropped p.target z shipped).2.map fun n => (p.volume, n)) ∧
        t.channels = s.channels.set c { x with
          state := .idle, pass := none, queue := [], batch := [], failures := 0, suspendPending := false } ∧
        t.mlu = noticedMgmt (.passDone c p.volume p.id p.mode p.target p.carries p.drops) s.mlu ∧
        (∀ u, u ≠ p.volume → look t.volumes u = look s.volumes u) ∧
        t = { s with volumes := t.volumes, channels := t.channels, epu.expiryQueue := t.epu.expiryQueue, mlu := t.mlu,
                     dpu.lastServed := c, arb := t.arb, sent := [] }) ∧
    ∀ k i, (k, i) ∈ [(DpWork.start, Instr.passStart), (.evaluate, .evaluationStep), (.complete, .passCompletion)] →
      w.work = .dp c k → dpReady s c ≠ some k → ∃ t, exec i s = .next t ∧ t = { s with arb := t.arb, sent := [] }

/-- R123, R124, R125, R129: an evaluation step evaluates the pass from its cursor, at most 64 journal entries in DELTA
mode or 64 extent indices in REBASE mode, and stops early where it stalls or the stream ends. A DELTA pass passes over
the entries of other volumes, evaluates an entry of its own volume extent by extent from the run offset, and ends its
stream at an entry of its volume above the target or at A; a REBASE pass carries, with their birth epochs, the extents
that the target holds, and ends its stream at N. R126: an extent of a BIRTH entry is carried, with the entry's epoch,
when its record is of the pass's volume with that ship epoch and LIVE, or RETAINED with a death epoch above the target.
R127: the extents of a DEATH entry are dropped when the old ship epoch is at or below the base. R123: a carry flushes
the drop batch first and takes the lowest EMPTY slot, whose read it begins; a batch of 32 is flushed; R124: a flush
with a DROP in the queue, or a carry without an EMPTY slot, stalls at its extent. The end of the stream flushes the
batch, gives a DELTA pass its end mark and places CLOSE_PASS with the counts. Two points are the model's: a flush
before a carry that then stalls for a slot stays made (notes/assumptions/8.md), and a step of 64 entries whose next one
ends the stream ends it at once (notes/assumptions/9.md).
The step changes only its channel's own record, and the pool read queue by the reads its carries begin. It keeps the
channel's state, settings and statistics and the pass's identity, appends to the stream queue, and keeps at most one
DROP in it. -/
def Obligations.EvaluationStaysWithinChannel : Prop :=
  (∀ (s : State) (w : Waiting) (c : ChanId) (p : Pass), Granted s 7 → look s.arb.waiting 7 = some w →
    w.work = .dp c .evaluate → dpReady s c = some .evaluate → (s.channels.get c).pass = some p →
    ∃ t, exec .evaluationStep s = .next t ∧
      let x := s.channels.get c
      let y := t.channels.get c
      t = { s with channels := s.channels.set c y, dpu := { s.dpu with lastServed := c, readQueue := t.dpu.readQueue },
                   arb := t.arb, sent := [] } ∧
      (let e := if p.mode = .delta then evaluateDelta c s.pool s.journal 64 ⟨x, []⟩ else evaluateRebase c s.pool 64 ⟨x, []⟩;
       y = e.channel ∧ t.dpu.readQueue = s.dpu.readQueue ++ e.reads) ∧
      (∃ new, t.dpu.readQueue = s.dpu.readQueue ++ new ∧ new.length ≤ (x.staging.filter fun k => k = .empty).length ∧
        ∀ r ∈ new, r.channel = c ∧ r.passId = p.id ∧ r.reread = false) ∧
      y.state = x.state ∧ y.settings = x.settings ∧ y.stats = x.stats ∧ y.outstanding = x.outstanding ∧
      y.failures = x.failures ∧ y.condition = x.condition ∧ y.passQueue = x.passQueue ∧
      (∃ more, y.queue = x.queue ++ more) ∧
      (((x.queue.filter fun i => match i with | .drop _ => true | _ => false).length ≤ 1) →
        (y.queue.filter fun i => match i with | .drop _ => true | _ => false).length ≤ 1) ∧
      ∃ p', y.pass = some p' ∧ p'.id = p.id ∧ p'.volume = p.volume ∧ p'.base = p.base ∧ p'.target = p.target ∧
        p'.mode = p.mode ∧ p'.seq = p.seq ∧ p.cursor ≤ p'.cursor ∧ p'.cursor ≤ p.cursor + 64 ∧
        (p'.phase = p.phase ∨ p'.phase = .close)) ∧
  ∀ (c : ChanId) (pool : Pool) (journal : Journal) (x : Channel) (p r : Pass) (reads : List PoolRead),
    x.pass = some p → r.id = p.id → r.volume = p.volume → r.base = p.base → r.target = p.target →
    let e : Eval := ⟨x, reads⟩
    let dropQueued := (∃ l, StreamItem.drop l ∈ x.queue)
    let withPass := fun q : Pass => ({ x with pass := some q } : Channel)
    let passed : Eval := ⟨withPass { p with cursor := p.cursor + 1, offset := 0 }, reads⟩
    let flushed : Channel := if x.batch = [] then x else { x with
      pass := some { p with drops := satAdd p.drops x.batch.length }, queue := x.queue ++ [.drop x.batch], batch := [] }
    let drops := if x.batch = [] then p.drops else satAdd p.drops x.batch.length
    let stalledFlush : Eval := ⟨withPass { p with stall := .flush }, reads⟩
    -- carrying extent `n` with epoch `b`; `r` is the pass as it stood when evaluation came to the entry
    (∀ n b, (x.batch ≠ [] ∧ dropQueued → carryExtent c r n b e = (stalledFlush, false)) ∧
      (x.batch = [] ∨ ¬ dropQueued →
        (StagingSlot.empty ∉ x.staging → carryExtent c r n b e =
          (⟨{ flushed with pass := some { p with drops := drops, stall := .slot } }, reads⟩, false)) ∧
        (∀ k, x.staging[k]? = some .empty → (∀ j, j < k → x.staging[j]? ≠ some .empty) → carryExtent c r n b e =
          (⟨{ flushed with
              pass := some { p with drops := drops, carries := satAdd p.carries 1 }
              queue := flushed.queue ++ [.carry n b k], staging := x.staging.set k (.filling n p.id) },
            reads ++ [⟨c, k, n, p.id, false⟩]⟩, true)))) ∧
    -- dropping extent `n`
    (∀ n, (x.batch.length < 31 → dropExtent n e = (⟨{ x with batch := x.batch ++ [n] }, reads⟩, true)) ∧
      (31 ≤ x.batch.length → dropQueued → dropExtent n e = (stalledFlush, false)) ∧
      (31 ≤ x.batch.length → ¬ dropQueued → dropExtent n e = (⟨{ x with
        pass := some { p with drops := satAdd p.drops (x.batch.length + 1) }
        queue := x.queue ++ [.drop (x.batch ++ [n])], batch := [] }, reads⟩, true))) ∧
    -- the end of the stream
    (x.batch ≠ [] ∧ dropQueued → endStream e = stalledFlush) ∧
    (x.batch = [] ∨ ¬ dropQueued → endStream e = ⟨{ flushed with
      pass := some { p with
        drops := drops, phase := .close, endMark := if p.mode = .delta then some p.cursor else p.endMark }
      queue := flushed.queue ++ [.closePass p.carries drops] }, reads⟩) ∧
    -- one extent `n` of a journal entry `j`
    (∀ (j : JournalEntry) (n : Nat),
      let carried := (∃ o b, extentAt pool n = some (.live p.volume o b j.epoch)) ∨
        ∃ o b d u v, extentAt pool n = some (.retained p.volume o b j.epoch d u v) ∧ p.target < d
      (j.kind = .birth → carried → evaluateExtent c pool r j n e = carryExtent c r n j.epoch e) ∧
      (j.kind = .birth → ¬ carried → evaluateExtent c pool r j n e = (e, true)) ∧
      (∀ ship, j.kind = .death → j.oldShip = some ship → ship ≤ p.base → evaluateExtent c pool r j n e = dropExtent n e) ∧
      (∀ ship, j.kind = .death → j.oldShip = some ship → p.base < ship → evaluateExtent c pool r j n e = (e, true))) ∧
    -- the `n` extents of an entry from place `i`, up to the first that stalls
    (∀ (j : JournalEntry) (i n : Nat), evaluateRun c pool r j i 0 e = (e, true) ∧
      (∀ e', evaluateExtent c pool r j (j.first + i) e = (e', true) →
        evaluateRun c pool r j i (n + 1) e = evaluateRun c pool p j (i + 1) n e') ∧
      (∀ y q l, evaluateExtent c pool r j (j.first + i) e = (⟨y, l⟩, false) → y.pass = some q →
        evaluateRun c pool r j i (n + 1) e = (⟨{ y with pass := some { q with offset := i } }, l⟩, false))) ∧
    -- a DELTA pass, `fuel` entries still allowed
    (∀ fuel, (journal.append ≤ p.cursor → evaluateDelta c pool journal fuel e = endStream e) ∧
      ∀ j, journal.oldest ≤ p.cursor → p.cursor < journal.append → journal.entries[p.cursor - journal.oldest]? = some j →
        (j.volume = p.volume → p.target < j.epoch → evaluateDelta c pool journal fuel e = endStream e) ∧
        (j.volume ≠ p.volume → evaluateDelta c pool journal (fuel + 1) e = evaluateDelta c pool journal fuel passed) ∧
        (j.volume ≠ p.volume ∨ j.epoch ≤ p.target → evaluateDelta c pool journal 0 e = e) ∧
        (∀ e', j.volume = p.volume → j.epoch ≤ p.target →
          (evaluateRun c pool p j p.offset (j.count - p.offset) e = (e', false) →
            evaluateDelta c pool journal (fuel + 1) e = e') ∧
          (∀ y q l, evaluateRun c pool p j p.offset (j.count - p.offset) e = (⟨y, l⟩, true) → y.pass = some q →
            evaluateDelta c pool journal (fuel + 1) e = evaluateDelta c pool journal fuel
              ⟨{ y with pass := some { q with cursor := q.cursor + 1, offset := 0 } }, l⟩))) ∧
    -- a REBASE pass, `fuel` extents still allowed
    ∀ fuel, (pool.capacity ≤ p.cursor → evaluateRebase c pool fuel e = endStream e) ∧
      (p.cursor < pool.capacity →
        let held := fun b => (∃ o h, extentAt pool p.cursor = some (.live p.volume o b h)) ∨
          ∃ o h d u v, extentAt pool p.cursor = some (.retained p.volume o b h d u v) ∧ p.target < d
        evaluateRebase c pool 0 e = e ∧
        ((∀ b, held b → p.target < b) → evaluateRebase c pool (fuel + 1) e = evaluateRebase c pool fuel passed) ∧
        ∀ b, held b → b ≤ p.target →
          (∀ e', carryExtent c p p.cursor b e = (e', false) → evaluateRebase c pool (fuel + 1) e = e') ∧
          ∀ y q l, carryExtent c p p.cursor b e = (⟨y, l⟩, true) → y.pass = some q →
            evaluateRebase c pool (fuel + 1) e = evaluateRebase c pool fuel
              ⟨{ y with pass := some { q with cursor := q.cursor + 1, offset := 0 } }, l⟩)

/-! ## The offsite link (Chapter 8) -/

/-- R134, R136, R147: SET_CHANNEL clamps and stores the six settings in any state; the override ON returns a SUSPENDED
channel and clears a suspend-pending flag, and OFF in a closed window suspends a STREAMING or PROBING channel, at once
or after its outstanding frame. SET_SPLIT is refused BAD_ARGUMENT for a code above 3, before NOT_IDLE, which is the
model's choice (notes/assumptions/50.md), and while a channel is not IDLE or a read is in flight, and otherwise divides
the staging anew, as Table 8-4 gives, with every slot EMPTY. -/
def Obligations.ChannelSettingsStored : Prop :=
  splitSlots 0 = ⟨8, 0, 0, 0⟩ ∧ splitSlots 1 = ⟨4, 4, 0, 0⟩ ∧ splitSlots 2 = ⟨4, 2, 2, 0⟩ ∧ splitSlots 3 = ⟨2, 2, 2, 2⟩ ∧
  (∀ (s : State) (tag n : Nat) (x : ChannelSettings), Takes s .mgmt tag (.setChannel n x) →
    ∃ t, exec (.setChannel tag n x) s = .next t ∧
    (3 < n → t = { s with mlu := tookMgmt s tag, arb := t.arb, sent := mgmtReply 0x55 tag (.code .badArgument) }) ∧
    (∀ c, four? n = some c →
      let y : ChannelSettings := ⟨x.enable, x.windowOverride, min 60 (max 1 x.responseTimeout),
        min 60 (max 1 x.probeInterval), min 3600 x.tailReserve, x.stopOnIntegrity⟩
      let o := s.channels.get c
      let z := { o with settings := y }
      t = { s with channels := s.channels.set c (t.channels.get c), mlu := tookMgmt s tag, arb := t.arb,
                   sent := mgmtReply 0x55 tag (.channelStored y) } ∧
      (x.windowOverride = true → o.state = .suspended .streaming →
        t.channels.get c = { z with state := .streaming }) ∧
      (x.windowOverride = true → o.state = .suspended .probing →
        t.channels.get c = { z with state := .probing, probeDue := some s.clock.now }) ∧
      (x.windowOverride = true → (∀ p, o.state ≠ .suspended p) →
        t.channels.get c = { z with suspendPending := false }) ∧
      (x.windowOverride = false → s.clock.window = .open_ → t.channels.get c = z) ∧
      (x.windowOverride = false → o.state ≠ .streaming → o.state ≠ .probing → t.channels.get c = z) ∧
      (x.windowOverride = false → s.clock.window = .closed → o.state = .streaming → o.outstanding = none →
        t.channels.get c = { z with state := .suspended .streaming, suspendPending := false, probeDue := none }) ∧
      (x.windowOverride = false → s.clock.window = .closed → o.state = .probing → o.outstanding = none →
        t.channels.get c = { z with state := .suspended .probing, suspendPending := false, probeDue := none }) ∧
      (∀ f, x.windowOverride = false → s.clock.window = .closed → (o.state = .streaming ∨ o.state = .probing) →
        o.outstanding = some f → t.channels.get c = { z with suspendPending := true }))) ∧
  ∀ (s : State) (tag code : Nat), Takes s .mgmt tag (.setSplit code) → ∃ t, exec (.setSplit tag code) s = .next t ∧
    (3 < code → t = { s with mlu := tookMgmt s tag, arb := t.arb, sent := mgmtReply 0x56 tag (.code .badArgument) }) ∧
    (code ≤ 3 → ((∃ c, (s.channels.get c).state ≠ .idle) ∨ s.dpu.inFlight ≠ []) →
      t = { s with mlu := tookMgmt s tag, arb := t.arb, sent := mgmtReply 0x56 tag (.code .notIdle) }) ∧
    (code ≤ 3 → (∀ c, (s.channels.get c).state = .idle) → s.dpu.inFlight = [] →
      t = { s with settings.split := code, channels := t.channels, mlu := tookMgmt s tag, arb := t.arb,
                   sent := mgmtReply 0x56 tag (.stored code) } ∧
      ∀ c, t.channels.get c = { s.channels.get c with
        staging := List.replicate ((splitSlots code).get c) .empty })

/-- R148, R149, R150, Table 8-7: what RESUME, CLEAR and CANCEL_PASS accept, and what each does to the channel: RESUME
reads its FAULTED slots again, and for INTEGRITY that of the pending CARRY, leaves every other slot, and streams, or
suspends in a closed window; that those reads join the queue in order of slot number, the INTEGRITY one last, is the
model's choice (notes/assumptions/23.md);
CLEAR drops the pass with the pin of its target (R78) and makes the channel IDLE; CANCEL_PASS stops it with CANCELLED and
keeps the pass. -/
def Obligations.ChannelCommands : Prop :=
  (∀ (s : State) (tag n : Nat) (i : Instr) (r : Request), 3 < n →
    ((i = .resume tag n ∧ r = .resume n) ∨ (i = .clear tag n ∧ r = .clear n) ∨
      (i = .cancelPass tag n ∧ r = .cancelPass n)) → Takes s .mgmt tag r → ∃ t, exec i s = .next t ∧
      t = { s with mlu := tookMgmt s tag, arb := t.arb, sent := mgmtReply (requestKind r) tag (.code .badArgument) }) ∧
  requestKind (.resume 0) = 0x57 ∧ requestKind (.clear 0) = 0x58 ∧ requestKind (.cancelPass 0) = 0x59 ∧
  ∀ (s : State) (tag n : Nat) (c : ChanId), four? n = some c →
    let x := s.channels.get c
    let refused := fun (t : State) kind code => t = { s with
      mlu := tookMgmt s tag, arb := t.arb, sent := mgmtReply kind tag (.code code) }
    (Takes s .mgmt tag (.resume n) → ∃ t, exec (.resume tag n) s = .next t ∧
      (x.state ≠ .stopped → refused t 0x57 .notStopped) ∧
      (x.state = .stopped → (x.condition = .noStaging ∨ x.condition = .journalLost ∨ x.condition = .cancelled) →
        refused t 0x57 .notResumable) ∧
      (x.state = .stopped →
        ((∃ b, x.condition = .refused b) ∨ x.condition = .retryLimit ∨ x.condition = .integrity ∨
          x.condition = .sourceFault) →
        t = { s with channels := s.channels.set c (t.channels.get c), dpu.readQueue := t.dpu.readQueue,
                     mlu := tookMgmt s tag, arb := t.arb, sent := mgmtReply 0x57 tag (.code .ok) } ∧
        t.channels.get c = { x with failures := 0, condition := .none, state := (t.channels.get c).state,
                                    staging := (t.channels.get c).staging } ∧
        (t.channels.get c).state = (if s.clock.window = .closed ∧ x.settings.windowOverride = false
          then .suspended .streaming else .streaming) ∧
        (let faulted := (List.range x.staging.length).filterMap fun k => match x.staging.getD k .empty with
           | .faulted e p => some (⟨c, k, e, p, false⟩ : PoolRead)
           | _ => none;
         let pending := (List.range x.staging.length).filterMap fun k =>
           match x.staging.getD k .empty, x.condition, x.queue with
           | .full e p _ _, .integrity, .carry _ _ j :: _ => if j = k then some (⟨c, k, e, p, false⟩ : PoolRead) else none
           | _, _, _ => none;
         let again := faulted ++ pending;
         t.dpu.readQueue = s.dpu.readQueue ++ again ∧
         (t.channels.get c).staging = (List.range x.staging.length).map fun k =>
           match again.find? (fun r => r.slot = k) with
           | some r => .filling r.extent r.passId
           | none => x.staging.getD k .empty))) ∧
    (Takes s .mgmt tag (.clear n) → ∃ t, exec (.clear tag n) s = .next t ∧
      (x.state ≠ .stopped → refused t 0x58 .notStopped) ∧
      (∀ p, x.state = .stopped → x.pass = some p →
        t.sent = mgmtReply 0x58 tag (.cleared p.id p.volume) ∧
        t.channels = s.channels.set c { x with
          state := .idle, pass := none, queue := [], batch := [], failures := 0, suspendPending := false,
          condition := .none, staging := List.replicate x.staging.length .empty } ∧
        t.dpu = { s.dpu with readQueue := s.dpu.readQueue.filter fun r => r.channel ≠ c } ∧
        (∀ V z, volume? s p.volume = some V → findSnapshot V p.target = some z → EpochsDistinct V →
          look t.volumes p.volume = some (pinDropped p.target z V).1 ∧
          t.epu.expiryQueue = s.epu.expiryQueue ++ (pinDropped p.target z V).2.map fun n => (p.volume, n)) ∧
        (∀ v, (look t.volumes v).map (fun V => (V.shippedBase, V.shipMark, V.needsRebase)) =
          (look s.volumes v).map fun V => (V.shippedBase, V.shipMark, V.needsRebase)) ∧
        (∀ v, v ≠ p.volume → look t.volumes v = look s.volumes v) ∧
        t = { s with volumes := t.volumes, channels := t.channels, epu.expiryQueue := t.epu.expiryQueue, dpu := t.dpu,
                     mlu := tookMgmt s tag, arb := t.arb, sent := t.sent })) ∧
    (Takes s .mgmt tag (.cancelPass n) → ∃ t, exec (.cancelPass tag n) s = .next t ∧
      (x.state = .idle → refused t 0x59 .noPass) ∧
      (∀ p, x.state ≠ .idle → x.pass = some p →
        t = { s with channels := s.channels.set c { x with
                       state := .stopped, condition := .cancelled, failures := 0, outstanding := none, deadline := none,
                       probeDue := none, suspendPending := false, queue := [], batch := [],
                       staging := List.replicate x.staging.length .empty },
                     dpu.readQueue := s.dpu.readQueue.filter (fun r => r.channel ≠ c),
                     mlu := tookMgmt s tag, arb := t.arb, sent := mgmtReply 0x59 tag (.cancelledPass p.id) }))

/-- R141, R142, R183: a STREAMING channel has an executable frame exactly when nothing is outstanding, it is not to
suspend, and the front of its stream queue may go: a CARRY with its slot FULL and the remaining window time above 0 and
at or above the tail reserve, another frame with that time above 0; a PROBING channel when nothing is outstanding, its
probe due time has come and that time is above 0; with its window override ON every test on the time holds; no other
channel has one. R139, Table 8-6: what each frame carries. R179, R180, R182, Table 12-6: the bytes of each frame's
envelope and body. While no frame is being transmitted the link scheduler takes the first channel with an executable
frame in round-robin order after the last that sent; its frame becomes outstanding. At the end of the transmission the
response deadline is set if that frame is outstanding still, from the response timeout that the channel had when the
transmission began, which the model takes as the moment the frame is sent (notes/assumptions/33.md). A probe due time
that has come makes a PROBE executable (R146). A frame of a part-side or unknown kind has no effect, and neither has
one with bytes of a gateway kind that comes as such a command (notes/assumptions/5.md). A deadline beyond the upper end
of the clock is left out (notes/assumptions/1.md); that a probe due time is a moment without an effect of its own is
the model's form (notes/assumptions/24.md). -/
def Obligations.LinkScheduler : Prop :=
  (∀ (s : State) (c : ChanId) (p : Pass), (s.channels.get c).pass = some p →
    let x := s.channels.get c
    let left := fun (least : Nat) => x.settings.windowOverride = true ∨ least ≤ remainingWindow s
    (x.state = .idle ∨ x.state = .stopped ∨ (∃ q, x.state = .suspended q) → executable s c = false) ∧
    (x.state = .probing → (executable s c = true ↔
      x.outstanding = none ∧ (∃ due, x.probeDue = some due ∧ due ≤ s.clock.now) ∧ left 1)) ∧
    (x.state = .streaming → x.queue = [] → executable s c = false) ∧
    (∀ i l, x.state = .streaming → x.queue = i :: l → (executable s c = true ↔
      x.outstanding = none ∧ x.suspendPending = false ∧ left 1 ∧ ∀ e b k, i = .carry e b k →
        (∃ n id pay d, x.staging.getD k .empty = .full n id pay d) ∧ left x.settings.tailReserve)) ∧
    (x.state = .probing → nextFrame x p = .probe p.id p.seq) ∧
    (∀ i l, x.state = .streaming → x.queue = i :: l →
      (i = .openPass → nextFrame x p = .openPass p.id p.seq p.volume p.base p.target p.mode) ∧
      (∀ e b k n id pay d, i = .carry e b k → x.staging.getD k .empty = .full n id pay d →
        nextFrame x p = .carry p.id p.seq e b d pay) ∧
      (∀ xs, i = .drop xs → nextFrame x p = .drop p.id p.seq xs) ∧
      (∀ m n, i = .closePass m n → nextFrame x p = .closePass p.id p.seq m n))) ∧
  (∀ s c, (s.channels.get c).pass = none → executable s c = false) ∧
  (∀ (c : ChanId) (id q : Nat),
    let sent := fun (f : OffsiteFrame) (kind : Byte) (size : Nat) (rest : List Byte → Prop) => ∃ b,
      (Output.frame c f).envelope? = some ⟨kind, 0, 0, 0, b⟩ ∧ b.length = size ∧
      field b 0 4 = id % 4294967296 ∧ field b 4 4 = q % 4294967296 ∧ rest b
    (∀ v base target mode, sent (.openPass id q v base target mode) 0x80 18 fun b =>
      field b 8 1 = v % 256 ∧ field b 9 1 = (match mode with | .delta => 0 | .rebase => 1) ∧
      field b 10 4 = base % 4294967296 ∧ field b 14 4 = target % 4294967296) ∧
    (∀ x e (d : Digest) (pay : List Byte), sent (.carry id q x e d pay) 0x81 (20 + pay.length) fun b =>
      field b 8 4 = x % 4294967296 ∧ field b 12 4 = e % 4294967296 ∧ field b 16 4 = d.toNat ∧ b.drop 20 = pay) ∧
    (∀ xs : List Nat, sent (.drop id q xs) 0x82 (9 + 4 * xs.length) fun b =>
      field b 8 1 = xs.length % 256 ∧ ∀ (i x : Nat), xs[i]? = some x → field b (9 + 4 * i) 4 = x % 4294967296) ∧
    (∀ m n, sent (.closePass id q m n) 0x83 16 fun b =>
      field b 8 4 = m % 4294967296 ∧ field b 12 4 = n % 4294967296) ∧
    sent (.probe id q) 0x84 8 fun _ => True) ∧
  ∀ (s : State) (c : ChanId), s.part = .running →
    let x := s.channels.get c
    (∀ p, x.pass = some p → s.dpu.transmission = none → executable s c = true →
      (∀ d, d ≠ c → executable s d = true →
        (afterFour s.dpu.lastSent).idxOf c < (afterFour s.dpu.lastSent).idxOf d) →
      ∃ t, exec .frameSend s = .next t ∧
        let o : Outstanding := ⟨x.state = .probing, p.id, p.seq⟩
        t = { s with channels := s.channels.set c { x with outstanding := some o },
                     dpu := { s.dpu with transmission := some ⟨c, o, x.settings.responseTimeout⟩, lastSent := c },
                     sent := [.frame c (nextFrame x p)], arb := t.arb }) ∧
    ((s.dpu.transmission ≠ none ∨ ∀ d, executable s d = false) →
      ∃ t, exec .frameSend s = .next t ∧ t = { s with arb := t.arb, sent := [] }) ∧
    (∀ f timeout, s.dpu.transmission = some ⟨c, f, timeout⟩ → ∃ t, exec .transmissionEnd s = .next t ∧
      (x.outstanding = some f → s.clock.now + timeout ≤ clockMax → t = { s with
        channels := s.channels.set c { x with deadline := some (s.clock.now + timeout) },
        dpu.transmission := none, arb := t.arb, sent := [] }) ∧
      (x.outstanding ≠ some f → t = { s with dpu.transmission := none, arb := t.arb, sent := [] })) ∧
    (s.dpu.transmission = none →
      ∃ t, exec .transmissionEnd s = .next t ∧ t = { s with arb := t.arb, sent := [] }) ∧
    (∀ p due, x.pass = some p → x.state = .probing → x.probeDue = some due → due ≤ s.clock.now → x.outstanding = none →
      (0 < remainingWindow s ∨ x.settings.windowOverride = true) →
      exec (.probeDue c) s = .next { s with sent := [] } ∧ executable s c = true ∧ nextFrame x p = .probe p.id p.seq) ∧
    (∀ frame, exec (.unknownOffsiteFrame frame) s = .next { s with sent := [] })

/-- R139, R143: an ACCEPT that matches no outstanding data frame is ignored; one with the pass id and sequence of a
channel's outstanding data frame, not a PROBE, is that channel's, and where several could take it the lowest one's,
which is deduced (notes/assumptions/34.md). A matching one whose digest echo differs is an integrity failure, which
stops the channel, counts a failure, or stops it at the third, a stop with its CHANNEL_STOPPED notice (R135). Any other
accepts its frame: the count becomes 0, the frame leaves the queue, the sequence rises, and the effect of its kind
follows; a next pending CARRY whose slot is FAULTED then stops the channel (R138). A suspend-pending channel that has
not stopped suspends (R147). That the count stays at 3 after the stop with RETRY_LIMIT (notes/assumptions/15.md), and
that the sequence rises without a bound (notes/assumptions/35.md), and that the ACCEPT of an OPEN_PASS leaves a pass
whose stream has ended in phase CLOSE (notes/assumptions/10.md), are deduced. That the incarnation and tag fields of
the frame are not read is the model's choice (notes/assumptions/31.md). -/
def Obligations.AcceptAdvancesStream : Prop :=
  ∀ (s : State) (frame : List Byte) (id q : Nat) (echo : Digest),
    s.part = .running → readGatewayFrame frame = .accept id q echo → ∃ t, exec (.accept frame) s = .next t ∧
    let answers := fun c => ∃ o, (s.channels.get c).outstanding = some o ∧ o.probe = false ∧ o.passId = id ∧ o.seq = q
    ((∀ c, ¬ answers c) → t = { s with arb := t.arb, sent := [] }) ∧
    ∀ (c : ChanId) (p : Pass) (i : StreamItem) (rest : List StreamItem),
      answers c → (∀ d, d < c → ¬ answers d) → (s.channels.get c).pass = some p → (s.channels.get c).queue = i :: rest →
      (s.channels.get c).state = .streaming →
      let x := s.channels.get c
      let answered := { x with outstanding := none, deadline := none }
      let stopped := fun (condition : Condition) => t = { s with
        channels := t.channels, mlu := noticedMgmt (.channelStopped c p.id p.volume condition) s.mlu, arb := t.arb, sent := [] }
      let ends := fun (y : Channel) => if x.suspendPending
        then { y with state := .suspended .streaming, suspendPending := false, probeDue := none } else y
      (∀ e h k pid pay d, i = .carry e h k → x.staging.getD k .empty = .full e pid pay d → d ≠ echo →
        let counted := { answered.stats with integrity := min 4294967295 (x.stats.integrity + 1) }
        (x.settings.stopOnIntegrity = true → t.channels = s.channels.set c { answered with
          state := .stopped, condition := .integrity, failures := 0, probeDue := none, suspendPending := false,
          stats := counted } ∧ stopped .integrity) ∧
        (x.settings.stopOnIntegrity = false → x.failures < 2 → t = { s with channels := s.channels.set c (ends { answered with
          failures := x.failures + 1,
          stats := { counted with failures := min 4294967295 (x.stats.failures + 1) } }), arb := t.arb, sent := [] }) ∧
        (x.settings.stopOnIntegrity = false → 2 ≤ x.failures → t.channels = s.channels.set c { answered with
          state := .stopped, condition := .retryLimit, probeDue := none, suspendPending := false,
          failures := x.failures + 1,
          stats := { counted with failures := min 4294967295 (x.stats.failures + 1) } } ∧ stopped .retryLimit)) ∧
      (let next := { answered with failures := 0, queue := rest }
       let moved := { p with seq := p.seq + 1 }
       let accepted := fun (y : Channel) =>
         ((∀ e h k r, rest = .carry e h k :: r → ∀ a b, y.staging.getD k .empty ≠ .faulted a b) →
           t = { s with channels := s.channels.set c (ends y), arb := t.arb, sent := [] }) ∧
         (∀ e h k r a b, rest = .carry e h k :: r → y.staging.getD k .empty = .faulted a b →
           t.channels = s.channels.set c { y with
             state := .stopped, condition := .sourceFault, probeDue := none, suspendPending := false } ∧
           stopped .sourceFault)
       (i = .openPass → accepted { next with
         pass := some { moved with phase := if p.phase = .open_ then .body else p.phase } }) ∧
       (∀ e h k pid pay, i = .carry e h k → x.staging.getD k .empty = .full e pid pay echo → accepted { next with
         pass := some { moved with stall := if p.stall = .slot then .none else p.stall }
         staging := x.staging.set k .empty
         stats := { x.stats with carries := min 4294967295 (x.stats.carries + 1) } }) ∧
       (∀ xs, i = .drop xs → accepted { next with
         pass := some { moved with stall := if p.stall = .flush then .none else p.stall }
         stats := { x.stats with drops := min 4294967295 (x.stats.drops + xs.length) } }) ∧
       (∀ a b, i = .closePass a b → accepted { next with pass := some { moved with closeAccepted := true } }))

/-- R139, R144, R145, R146: a matching DEFER puts its channel into PROBING with a new probe due time; a matching REFUSE
stops it with the reason; a matching READY to a PROBE returns it to STREAMING; the expiry of a response deadline counts
a failure, leading to PROBING or, at the third, to STOPPED with RETRY_LIMIT. A DEFER or REFUSE with the pass id and
sequence of a channel's outstanding frame is that channel's, a READY only when that frame is a PROBE; responses that
match no frame are ignored. A suspend-pending channel that has not stopped suspends, to the state it would otherwise be
in (R147). A due time beyond the upper end of the clock is left out (notes/assumptions/1.md). That the count stays at 3
after the stop with RETRY_LIMIT (notes/assumptions/15.md), and which channel a response belongs to where several could
take it (notes/assumptions/34.md), are deduced. That the incarnation and tag fields of the frame are not read is the
model's choice (notes/assumptions/31.md). -/
def Obligations.ResponsesAndTimeouts : Prop :=
  ∀ s : State, s.part = .running →
    let answers := fun (id q : Nat) d => ∃ o, (s.channels.get d).outstanding = some o ∧ o.passId = id ∧ o.seq = q
    let readies := fun (id q : Nat) d =>
      ∃ o, (s.channels.get d).outstanding = some o ∧ o.probe = true ∧ o.passId = id ∧ o.seq = q
    let ignored := fun (i : Instr) => ∃ t, exec i s = .next t ∧ t = { s with arb := t.arb, sent := [] }
    (∀ frame id q, readGatewayFrame frame = .defer id q → (∀ d, ¬ answers id q d) → ignored (.defer frame)) ∧
    (∀ frame id q reason, readGatewayFrame frame = .refuse id q reason → (∀ d, ¬ answers id q d) →
      ignored (.refuse frame)) ∧
    (∀ frame id q, readGatewayFrame frame = .ready id q → (∀ d, ¬ readies id q d) → ignored (.ready frame)) ∧
    (∀ c, ((s.channels.get c).outstanding = none ∨ ∀ due, (s.channels.get c).deadline = some due → s.clock.now < due) →
      ignored (.responseTimeout c)) ∧
    ∀ (c : ChanId) (p : Pass), (s.channels.get c).pass = some p →
    let x := s.channels.get c
    let answered := { x with outstanding := none, deadline := none }
    let probing := { answered with
      state := .probing, probeDue := some (s.clock.now + x.settings.probeInterval) }
    let ends := fun (y : Channel) (previous : Previous) => if x.suspendPending
      then { y with state := .suspended previous, suspendPending := false, probeDue := none } else y
    (∀ frame id q, readGatewayFrame frame = .defer id q → answers id q c → (∀ d, d < c → ¬ answers id q d) →
      s.clock.now + x.settings.probeInterval ≤ clockMax → ∃ t, exec (.defer frame) s = .next t ∧
        t = { s with channels := s.channels.set c (ends { probing with
                       stats := { x.stats with defers := min 4294967295 (x.stats.defers + 1) } } .probing),
                     arb := t.arb, sent := [] }) ∧
    (∀ frame id q reason, readGatewayFrame frame = .refuse id q reason → answers id q c →
      (∀ d, d < c → ¬ answers id q d) → ∃ t, exec (.refuse frame) s = .next t ∧
        t = { s with channels := s.channels.set c { answered with
                       state := .stopped, probeDue := none, suspendPending := false, condition := .refused reason,
                       failures := 0 },
                     mlu := noticedMgmt (.channelStopped c p.id p.volume (.refused reason)) s.mlu,
                     arb := t.arb, sent := [] }) ∧
    (∀ frame id q, readGatewayFrame frame = .ready id q → readies id q c → (∀ d, d < c → ¬ readies id q d) →
      ∃ t, exec (.ready frame) s = .next t ∧
        t = { s with channels := s.channels.set c (ends { answered with state := .streaming, probeDue := none } .streaming),
                     arb := t.arb, sent := [] }) ∧
    (∀ o due, x.outstanding = some o → x.deadline = some due → due ≤ s.clock.now →
      ∃ t, exec (.responseTimeout c) s = .next t ∧
      (x.failures < 2 → s.clock.now + x.settings.probeInterval ≤ clockMax → t = { s with
        channels := s.channels.set c (ends { probing with
          failures := x.failures + 1,
          stats := { x.stats with failures := min 4294967295 (x.stats.failures + 1) } } .probing),
        arb := t.arb, sent := [] }) ∧
      (2 ≤ x.failures → t = { s with
        channels := s.channels.set c { answered with
          state := .stopped, probeDue := none, suspendPending := false, condition := .retryLimit,
          failures := x.failures + 1,
          stats := { x.stats with failures := min 4294967295 (x.stats.failures + 1) } },
        mlu := noticedMgmt (.channelStopped c p.id p.volume .retryLimit) s.mlu,
        arb := t.arb, sent := [] }))

/-- R137, R138, R140: the front of the read queue is issued while fewer than 16 reads are in flight, and else none.
Completions come in any order: one takes its read out of those in flight; for the pass its slot holds, a payload makes
the slot FULL with its digest, a first fault puts a reread at the front of the queue, and a fault of the reread makes
the slot FAULTED, which stops the channel, with its CHANNEL_STOPPED notice (R135), when the slot backs its pending
CARRY; with its slot EMPTY or holding another pass, FILLING, FULL or FAULTED, it is ignored. That a completion which
names no read in flight is ignored, and that a payload of any length is stored and digested, is the model's choice
(notes/assumptions/37.md). -/
def Obligations.PoolReads : Prop :=
  ∀ s : State, s.part = .running →
    (∀ r q, s.dpu.readQueue = r :: q → s.dpu.inFlight.length < 16 → ∃ t, exec .poolReadIssue s = .next t ∧
      t = { s with dpu := { s.dpu with readQueue := q, inFlight := s.dpu.inFlight ++ [r] }, sent := [.poolRead r],
                   arb := t.arb }) ∧
    (s.dpu.readQueue = [] ∨ 16 ≤ s.dpu.inFlight.length →
      ∃ t, exec .poolReadIssue s = .next t ∧ t = { s with arb := t.arb, sent := [] }) ∧
    (∀ (c : ChanId) (slot passId : Nat) result,
      (∀ q ∈ s.dpu.inFlight, ¬ (q.channel = c ∧ q.slot = slot ∧ q.passId = passId)) →
      ∃ t, exec (.poolReadCompletion c slot passId result) s = .next t ∧ t = { s with arb := t.arb, sent := [] }) ∧
    (∀ r result, r ∈ s.dpu.inFlight →
      (∀ q ∈ s.dpu.inFlight, q.channel = r.channel → q.slot = r.slot → q.passId = r.passId → q = r) → ∃ t,
      exec (.poolReadCompletion r.channel r.slot r.passId result) s = .next t ∧
      let rest := s.dpu.inFlight.erase r
      t.dpu.inFlight = rest ∧
      let x := s.channels.get r.channel
      let slot := x.staging.getD r.slot .empty
      (∀ e bytes, slot = .filling e r.passId → result = .payload bytes →
        t = { s with channels := s.channels.set r.channel { x with
                       staging := x.staging.set r.slot (.full e r.passId bytes (crc32 bytes)) },
                     dpu.inFlight := rest, arb := t.arb, sent := [] }) ∧
      (∀ e, slot = .filling e r.passId → result = .fault → r.reread = false →
        t = { s with dpu := { s.dpu with
                       inFlight := rest, readQueue := ⟨r.channel, r.slot, e, r.passId, true⟩ :: s.dpu.readQueue },
                     arb := t.arb, sent := [] }) ∧
      (∀ e, slot = .filling e r.passId → result = .fault → r.reread = true →
        (t.channels.get r.channel).staging = x.staging.set r.slot (.faulted e r.passId) ∧
        (∀ d, d ≠ r.channel → t.channels.get d = s.channels.get d) ∧
        (∀ a h q, x.queue = .carry a h r.slot :: q → r.slot < x.staging.length → x.state ≠ .idle → x.state ≠ .stopped →
          (t.channels.get r.channel).state = .stopped ∧ (t.channels.get r.channel).condition = .sourceFault ∧
          ∀ p, x.pass = some p → t = { s with
            channels := s.channels.set r.channel { x with
              staging := x.staging.set r.slot (.faulted e r.passId), state := .stopped, condition := .sourceFault,
              failures := 0, outstanding := none, deadline := none, probeDue := none, suspendPending := false }
            mlu := noticedMgmt (.channelStopped r.channel p.id p.volume .sourceFault) s.mlu
            dpu.inFlight := rest, arb := t.arb, sent := [] }) ∧
        (x.state = .idle ∨ x.state = .stopped → t = { s with
          channels := s.channels.set r.channel { x with staging := x.staging.set r.slot (.faulted e r.passId) }
          dpu.inFlight := rest, arb := t.arb, sent := [] }) ∧
        ((∀ a h q, x.queue ≠ .carry a h r.slot :: q) →
          (∀ a h k q, x.queue = .carry a h k :: q → ∀ b d, x.staging.getD k .empty ≠ StagingSlot.faulted b d) →
          t = { s with
            channels := s.channels.set r.channel { x with staging := x.staging.set r.slot (.faulted e r.passId) }
            dpu.inFlight := rest, arb := t.arb, sent := [] })) ∧
      ((slot = .empty ∨ ∃ e id, id ≠ r.passId ∧
          (slot = .filling e id ∨ slot = .faulted e id ∨ ∃ bytes d, slot = .full e id bytes d)) →
        t = { s with dpu.inFlight := rest, arb := t.arb, sent := [] }))

/-! ## Invariants that every step keeps -/

/-- The tables of accounts, volumes, extents and waiting operations stay in canonical form, with the numbers that R18,
R63 and R162 give them. R12, R15, R16, R17: the journal ring holds the entries from O to A − 1 in order, each under its
sequence number, at most 4,194,304 of them; after every step. -/
def Obligations.TablesStayCanonical : Prop :=
  (∀ s t : State, TablesCanonical s → step s = .next t → TablesCanonical t) ∧
  (∀ s t : State, JournalWell s → step s = .next t → JournalWell t)

/-- R166: no operation waits through more than 72 grants to others: the age bound is kept by every step. R162: no agent
but CK that has something to present waits with nothing while the part runs: after every step. -/
def Obligations.AgesStayBounded : Prop :=
  (∀ s t : State, AgesBounded s → step s = .next t → AgesBounded t) ∧
  (∀ s t : State, AgentsPresent s → step s = .next t → AgentsPresent t)

/-- R5, R6, R8: F and the free count of every zone count the FREE extents, and every allocation cursor stands in its
zone, after every step. -/
def Obligations.PoolStaysCounted : Prop := ∀ s t : State, PoolCounted s → step s = .next t → PoolCounted t

/-- R135: the failure count, condition and outstanding frame of every channel agree with its state after every step. -/
def Obligations.ChannelsStayWell : Prop := ∀ s t : State, ChannelsWell s → step s = .next t → ChannelsWell t

/-- R69, R76, R96, R138, R151, R156, R160, R171, R175: the bounds on queues, slots, waiters, contexts, catalogues, reads
in flight and the wall clock are kept by every step. -/
def Obligations.QueuesStayBounded : Prop := ∀ s t : State, QueuesBounded s → step s = .next t → QueuesBounded t

/-- R64, R76, R80, R83, R87, R92, R93: every extent lies on an ACTIVE volume whose held count counts it; every RETAINED
extent lies once in the retention chain of its volume, in order of death epoch, and a snapshot LIVE or EXPIRING holds it;
a walk in progress stands on its chain; after every step.
R20, R21, R22, R42: the figures of every person count the extent table and the restore contexts, those of every group are
the sums of its members', and the RESERVED extents are those that the OPEN slots have not committed; after every step.
R78: the pin count of every snapshot is the number of restore contexts, pass-queue entries and passes that name it; after
every step. -/
def Obligations.RecordsStayTrue : Prop :=
  (∀ s t : State, ChainsWell s → step s = .next t → ChainsWell t) ∧
  (∀ s t : State, FiguresWell s → step s = .next t → FiguresWell t) ∧
  (∀ s t : State, PinsWell s → step s = .next t → PinsWell t)
end

