-- ==== Sys2Proof/Laws/Tables.lean ====
section
/-! SUPPORT. What the operations on tables and on the four heads and channels do, said once. -/

namespace Sys2Proof.Machine

variable {α β : Type}

/-! ## Reading after a change -/

@[simp] theorem look_nil (n : Nat) : look ([] : Table α) n = none := rfl

theorem look_put_self (t : Table α) (n : Nat) (a : α) : look (put t n a) n = some a := by
  fun_induction put t n a <;> simp_all [look]

theorem look_put_ne (t : Table α) {n m : Nat} (a : α) (h : m ≠ n) : look (put t n a) m = look t m := by
  fun_induction put t n a <;> simp_all [look]

/-- Reading after listing a record. -/
theorem look_put (t : Table α) (n m : Nat) (a : α) : look (put t n a) m = if m = n then some a else look t m := by
  split
  · next h => rw [h, look_put_self]
  · next h => exact look_put_ne t a h

theorem look_unlist_ne (t : Table α) {n m : Nat} (h : m ≠ n) : look (unlist t n) m = look t m := by
  fun_induction unlist t n <;> simp_all [look]

theorem look_eq_none {t : Table α} {n : Nat} (h : n ∉ t.map Prod.fst) : look t n = none := by
  fun_induction look t n <;> simp_all

theorem mem_keys_of_look {t : Table α} {n : Nat} {a : α} (h : look t n = some a) : (n, a) ∈ t := by
  fun_induction look t n <;> simp_all

theorem rising_cons {k : Nat} {v : α} {t : Table α} :
    Rising ((k, v) :: t) ↔ (∀ n ∈ t.map Prod.fst, k < n) ∧ Rising t := by
  simp [Rising]

/-- Reading after removing a record of a table in canonical form. -/
theorem look_unlist_self {t : Table α} (n : Nat) (h : Rising t) : look (unlist t n) n = none := by
  fun_induction unlist t n with
  | case1 => rfl
  | case2 k v t => exact look_eq_none fun hm => absurd ((rising_cons.mp h).1 _ hm) (lt_irrefl _)
  | case3 n k v t hne ih => simp [look, hne, ih (rising_cons.mp h).2]

theorem look_adjust (f : α → α) (t : Table α) (n m : Nat) :
    look (adjust f t n) m = if m = n then (look t m).map f else look t m := by
  fun_induction adjust f t n <;> grind [look]

theorem look_mapTable (f : α → α) (t : Table α) (n : Nat) : look (mapTable f t) n = (look t n).map f := by
  induction t with
  | nil => rfl
  | cons p t ih =>
    obtain ⟨k, v⟩ := p
    simp only [mapTable, List.map_cons, look] at ih ⊢
    split <;> simp_all

/-! ## The canonical form is kept -/

@[simp] theorem adjust_keys (f : α → α) (t : Table α) (n : Nat) : (adjust f t n).map Prod.fst = t.map Prod.fst := by
  fun_induction adjust f t n <;> simp_all

@[simp] theorem mapTable_keys (f : α → α) (t : Table α) : (mapTable f t).map Prod.fst = t.map Prod.fst := by
  simp [mapTable, Function.comp_def]

theorem mem_put_keys {t : Table α} {n m : Nat} {a : α} (h : m ∈ (put t n a).map Prod.fst) : m = n ∨ m ∈ t.map Prod.fst := by
  fun_induction put t n a <;> grind

theorem mem_unlist_keys {t : Table α} {n m : Nat} (h : m ∈ (unlist t n).map Prod.fst) : m ∈ t.map Prod.fst := by
  fun_induction unlist t n <;> grind

theorem rising_put {t : Table α} (n : Nat) (a : α) (h : Rising t) : Rising (put t n a) := by
  fun_induction put t n a with
  | case1 => simp [Rising]
  | case2 n a k v t hlt =>
    refine rising_cons.mpr ⟨fun m hm => ?_, h⟩
    rcases List.mem_cons.mp hm with rfl | hm
    · exact hlt
    · exact lt_trans hlt ((rising_cons.mp h).1 m hm)
  | case3 a k v t _ => exact rising_cons.mpr (rising_cons.mp h)
  | case4 n a k v t hlt hne ih =>
    refine rising_cons.mpr ⟨fun m hm => ?_, ih (rising_cons.mp h).2⟩
    rcases mem_put_keys hm with rfl | hm
    · omega
    · exact (rising_cons.mp h).1 m hm

theorem rising_unlist {t : Table α} (n : Nat) (h : Rising t) : Rising (unlist t n) := by
  fun_induction unlist t n with
  | case1 => exact h
  | case2 k v t => exact (rising_cons.mp h).2
  | case3 n k v t hne ih =>
    exact rising_cons.mpr ⟨fun m hm => (rising_cons.mp h).1 m (mem_unlist_keys hm), ih (rising_cons.mp h).2⟩

theorem rising_adjust {t : Table α} (f : α → α) (n : Nat) (h : Rising t) : Rising (adjust f t n) := by
  simpa [Rising] using h

theorem rising_mapTable {t : Table α} (f : α → α) (h : Rising t) : Rising (mapTable f t) := by
  simpa [Rising] using h

theorem length_put {t : Table α} {n : Nat} (a : α) (h : look t n = none) : (put t n a).length = t.length + 1 := by
  fun_induction put t n a <;> grind [look]

theorem length_unlist {t : Table α} {n : Nat} {a : α} (h : look t n = some a) : (unlist t n).length + 1 = t.length := by
  fun_induction unlist t n <;> grind [look]

/-! ## The four heads and channels -/

theorem Quad.get_set (q : Quad α) (i j : Fin 4) (a : α) : (q.set i a).get j = if j = i then a else q.get j := by
  fin_cases i <;> fin_cases j <;> simp [Quad.get, Quad.set]

@[simp] theorem Quad.get_set_self (q : Quad α) (i : Fin 4) (a : α) : (q.set i a).get i = a := by simp [Quad.get_set]

@[simp] theorem Quad.set_set (q : Quad α) (i : Fin 4) (a b : α) : (q.set i a).set i b = q.set i b := by
  fin_cases i <;> simp [Quad.set]

@[simp] theorem Quad.set_get (q : Quad α) (i : Fin 4) : q.set i (q.get i) = q := by
  fin_cases i <;> simp [Quad.set, Quad.get]

@[simp] theorem Quad.get_map (f : α → β) (q : Quad α) (i : Fin 4) : (q.map f).get i = f (q.get i) := by
  fin_cases i <;> simp [Quad.map, Quad.get]

end Sys2Proof.Machine
end

