-- ==== Sys2Proof/Laws/State.lean ====
section
/-! SUPPORT. What each update of the state leaves as it was: one lemma for each field. -/

namespace Sys2Proof.Machine

variable (s : State)

/-! ## `State.fresh` -/

@[simp] theorem fresh_part : s.fresh.part = s.part := rfl
@[simp] theorem fresh_clock : s.fresh.clock = s.clock := rfl
@[simp] theorem fresh_pool : s.fresh.pool = s.pool := rfl
@[simp] theorem fresh_journal : s.fresh.journal = s.journal := rfl
@[simp] theorem fresh_accounts : s.fresh.accounts = s.accounts := rfl
@[simp] theorem fresh_volumes : s.fresh.volumes = s.volumes := rfl
@[simp] theorem fresh_settings : s.fresh.settings = s.settings := rfl
@[simp] theorem fresh_heads : s.fresh.heads = s.heads := rfl
@[simp] theorem fresh_mlu : s.fresh.mlu = s.mlu := rfl
@[simp] theorem fresh_epu : s.fresh.epu = s.epu := rfl
@[simp] theorem fresh_rsq : s.fresh.rsq = s.rsq := rfl
@[simp] theorem fresh_channels : s.fresh.channels = s.channels := rfl
@[simp] theorem fresh_dpu : s.fresh.dpu = s.dpu := rfl
@[simp] theorem fresh_arb : s.fresh.arb = s.arb := rfl
@[simp] theorem fresh_pending : s.fresh.pending = s.pending := rfl

/-! ## `emit` -/

@[simp] theorem emit_part (o : Output) : (emit o s).part = s.part := rfl
@[simp] theorem emit_clock (o : Output) : (emit o s).clock = s.clock := rfl
@[simp] theorem emit_pool (o : Output) : (emit o s).pool = s.pool := rfl
@[simp] theorem emit_journal (o : Output) : (emit o s).journal = s.journal := rfl
@[simp] theorem emit_accounts (o : Output) : (emit o s).accounts = s.accounts := rfl
@[simp] theorem emit_volumes (o : Output) : (emit o s).volumes = s.volumes := rfl
@[simp] theorem emit_settings (o : Output) : (emit o s).settings = s.settings := rfl
@[simp] theorem emit_heads (o : Output) : (emit o s).heads = s.heads := rfl
@[simp] theorem emit_mlu (o : Output) : (emit o s).mlu = s.mlu := rfl
@[simp] theorem emit_epu (o : Output) : (emit o s).epu = s.epu := rfl
@[simp] theorem emit_rsq (o : Output) : (emit o s).rsq = s.rsq := rfl
@[simp] theorem emit_channels (o : Output) : (emit o s).channels = s.channels := rfl
@[simp] theorem emit_dpu (o : Output) : (emit o s).dpu = s.dpu := rfl
@[simp] theorem emit_arb (o : Output) : (emit o s).arb = s.arb := rfl
@[simp] theorem emit_pending (o : Output) : (emit o s).pending = s.pending := rfl

/-! ## `modifyHead` -/

@[simp] theorem modifyHead_part (h : HeadId) (f : Head → Head) : (modifyHead h f s).part = s.part := rfl
@[simp] theorem modifyHead_clock (h : HeadId) (f : Head → Head) : (modifyHead h f s).clock = s.clock := rfl
@[simp] theorem modifyHead_pool (h : HeadId) (f : Head → Head) : (modifyHead h f s).pool = s.pool := rfl
@[simp] theorem modifyHead_journal (h : HeadId) (f : Head → Head) : (modifyHead h f s).journal = s.journal := rfl
@[simp] theorem modifyHead_accounts (h : HeadId) (f : Head → Head) : (modifyHead h f s).accounts = s.accounts := rfl
@[simp] theorem modifyHead_volumes (h : HeadId) (f : Head → Head) : (modifyHead h f s).volumes = s.volumes := rfl
@[simp] theorem modifyHead_settings (h : HeadId) (f : Head → Head) : (modifyHead h f s).settings = s.settings := rfl
@[simp] theorem modifyHead_mlu (h : HeadId) (f : Head → Head) : (modifyHead h f s).mlu = s.mlu := rfl
@[simp] theorem modifyHead_epu (h : HeadId) (f : Head → Head) : (modifyHead h f s).epu = s.epu := rfl
@[simp] theorem modifyHead_rsq (h : HeadId) (f : Head → Head) : (modifyHead h f s).rsq = s.rsq := rfl
@[simp] theorem modifyHead_channels (h : HeadId) (f : Head → Head) : (modifyHead h f s).channels = s.channels := rfl
@[simp] theorem modifyHead_dpu (h : HeadId) (f : Head → Head) : (modifyHead h f s).dpu = s.dpu := rfl
@[simp] theorem modifyHead_arb (h : HeadId) (f : Head → Head) : (modifyHead h f s).arb = s.arb := rfl
@[simp] theorem modifyHead_sent (h : HeadId) (f : Head → Head) : (modifyHead h f s).sent = s.sent := rfl
@[simp] theorem modifyHead_pending (h : HeadId) (f : Head → Head) : (modifyHead h f s).pending = s.pending := rfl

/-! ## `modifyChannel` -/

@[simp] theorem modifyChannel_part (c : ChanId) (f : Channel → Channel) : (modifyChannel c f s).part = s.part := rfl
@[simp] theorem modifyChannel_clock (c : ChanId) (f : Channel → Channel) : (modifyChannel c f s).clock = s.clock := rfl
@[simp] theorem modifyChannel_pool (c : ChanId) (f : Channel → Channel) : (modifyChannel c f s).pool = s.pool := rfl
@[simp] theorem modifyChannel_journal (c : ChanId) (f : Channel → Channel) : (modifyChannel c f s).journal = s.journal := rfl
@[simp] theorem modifyChannel_accounts (c : ChanId) (f : Channel → Channel) : (modifyChannel c f s).accounts = s.accounts := rfl
@[simp] theorem modifyChannel_volumes (c : ChanId) (f : Channel → Channel) : (modifyChannel c f s).volumes = s.volumes := rfl
@[simp] theorem modifyChannel_settings (c : ChanId) (f : Channel → Channel) : (modifyChannel c f s).settings = s.settings := rfl
@[simp] theorem modifyChannel_heads (c : ChanId) (f : Channel → Channel) : (modifyChannel c f s).heads = s.heads := rfl
@[simp] theorem modifyChannel_mlu (c : ChanId) (f : Channel → Channel) : (modifyChannel c f s).mlu = s.mlu := rfl
@[simp] theorem modifyChannel_epu (c : ChanId) (f : Channel → Channel) : (modifyChannel c f s).epu = s.epu := rfl
@[simp] theorem modifyChannel_rsq (c : ChanId) (f : Channel → Channel) : (modifyChannel c f s).rsq = s.rsq := rfl
@[simp] theorem modifyChannel_dpu (c : ChanId) (f : Channel → Channel) : (modifyChannel c f s).dpu = s.dpu := rfl
@[simp] theorem modifyChannel_arb (c : ChanId) (f : Channel → Channel) : (modifyChannel c f s).arb = s.arb := rfl
@[simp] theorem modifyChannel_sent (c : ChanId) (f : Channel → Channel) : (modifyChannel c f s).sent = s.sent := rfl
@[simp] theorem modifyChannel_pending (c : ChanId) (f : Channel → Channel) : (modifyChannel c f s).pending = s.pending := rfl

/-! ## `modifyVolume` -/

@[simp] theorem modifyVolume_part (v : Nat) (f : Volume → Volume) : (modifyVolume v f s).part = s.part := rfl
@[simp] theorem modifyVolume_clock (v : Nat) (f : Volume → Volume) : (modifyVolume v f s).clock = s.clock := rfl
@[simp] theorem modifyVolume_pool (v : Nat) (f : Volume → Volume) : (modifyVolume v f s).pool = s.pool := rfl
@[simp] theorem modifyVolume_journal (v : Nat) (f : Volume → Volume) : (modifyVolume v f s).journal = s.journal := rfl
@[simp] theorem modifyVolume_accounts (v : Nat) (f : Volume → Volume) : (modifyVolume v f s).accounts = s.accounts := rfl
@[simp] theorem modifyVolume_settings (v : Nat) (f : Volume → Volume) : (modifyVolume v f s).settings = s.settings := rfl
@[simp] theorem modifyVolume_heads (v : Nat) (f : Volume → Volume) : (modifyVolume v f s).heads = s.heads := rfl
@[simp] theorem modifyVolume_mlu (v : Nat) (f : Volume → Volume) : (modifyVolume v f s).mlu = s.mlu := rfl
@[simp] theorem modifyVolume_epu (v : Nat) (f : Volume → Volume) : (modifyVolume v f s).epu = s.epu := rfl
@[simp] theorem modifyVolume_rsq (v : Nat) (f : Volume → Volume) : (modifyVolume v f s).rsq = s.rsq := rfl
@[simp] theorem modifyVolume_channels (v : Nat) (f : Volume → Volume) : (modifyVolume v f s).channels = s.channels := rfl
@[simp] theorem modifyVolume_dpu (v : Nat) (f : Volume → Volume) : (modifyVolume v f s).dpu = s.dpu := rfl
@[simp] theorem modifyVolume_arb (v : Nat) (f : Volume → Volume) : (modifyVolume v f s).arb = s.arb := rfl
@[simp] theorem modifyVolume_sent (v : Nat) (f : Volume → Volume) : (modifyVolume v f s).sent = s.sent := rfl
@[simp] theorem modifyVolume_pending (v : Nat) (f : Volume → Volume) : (modifyVolume v f s).pending = s.pending := rfl

/-! ## `modifyAccount` -/

@[simp] theorem modifyAccount_part (n : Nat) (f : Account → Account) : (modifyAccount n f s).part = s.part := rfl
@[simp] theorem modifyAccount_clock (n : Nat) (f : Account → Account) : (modifyAccount n f s).clock = s.clock := rfl
@[simp] theorem modifyAccount_pool (n : Nat) (f : Account → Account) : (modifyAccount n f s).pool = s.pool := rfl
@[simp] theorem modifyAccount_journal (n : Nat) (f : Account → Account) : (modifyAccount n f s).journal = s.journal := rfl
@[simp] theorem modifyAccount_volumes (n : Nat) (f : Account → Account) : (modifyAccount n f s).volumes = s.volumes := rfl
@[simp] theorem modifyAccount_settings (n : Nat) (f : Account → Account) : (modifyAccount n f s).settings = s.settings := rfl
@[simp] theorem modifyAccount_heads (n : Nat) (f : Account → Account) : (modifyAccount n f s).heads = s.heads := rfl
@[simp] theorem modifyAccount_mlu (n : Nat) (f : Account → Account) : (modifyAccount n f s).mlu = s.mlu := rfl
@[simp] theorem modifyAccount_epu (n : Nat) (f : Account → Account) : (modifyAccount n f s).epu = s.epu := rfl
@[simp] theorem modifyAccount_rsq (n : Nat) (f : Account → Account) : (modifyAccount n f s).rsq = s.rsq := rfl
@[simp] theorem modifyAccount_channels (n : Nat) (f : Account → Account) : (modifyAccount n f s).channels = s.channels := rfl
@[simp] theorem modifyAccount_dpu (n : Nat) (f : Account → Account) : (modifyAccount n f s).dpu = s.dpu := rfl
@[simp] theorem modifyAccount_arb (n : Nat) (f : Account → Account) : (modifyAccount n f s).arb = s.arb := rfl
@[simp] theorem modifyAccount_sent (n : Nat) (f : Account → Account) : (modifyAccount n f s).sent = s.sent := rfl
@[simp] theorem modifyAccount_pending (n : Nat) (f : Account → Account) : (modifyAccount n f s).pending = s.pending := rfl

/-! ## `modifySnapshot` -/

@[simp] theorem modifySnapshot_part (v e : Nat) (f : Snapshot → Snapshot) : (modifySnapshot v e f s).part = s.part := rfl
@[simp] theorem modifySnapshot_clock (v e : Nat) (f : Snapshot → Snapshot) : (modifySnapshot v e f s).clock = s.clock := rfl
@[simp] theorem modifySnapshot_pool (v e : Nat) (f : Snapshot → Snapshot) : (modifySnapshot v e f s).pool = s.pool := rfl
@[simp] theorem modifySnapshot_journal (v e : Nat) (f : Snapshot → Snapshot) : (modifySnapshot v e f s).journal = s.journal := rfl
@[simp] theorem modifySnapshot_accounts (v e : Nat) (f : Snapshot → Snapshot) : (modifySnapshot v e f s).accounts = s.accounts := rfl
@[simp] theorem modifySnapshot_settings (v e : Nat) (f : Snapshot → Snapshot) : (modifySnapshot v e f s).settings = s.settings := rfl
@[simp] theorem modifySnapshot_heads (v e : Nat) (f : Snapshot → Snapshot) : (modifySnapshot v e f s).heads = s.heads := rfl
@[simp] theorem modifySnapshot_mlu (v e : Nat) (f : Snapshot → Snapshot) : (modifySnapshot v e f s).mlu = s.mlu := rfl
@[simp] theorem modifySnapshot_epu (v e : Nat) (f : Snapshot → Snapshot) : (modifySnapshot v e f s).epu = s.epu := rfl
@[simp] theorem modifySnapshot_rsq (v e : Nat) (f : Snapshot → Snapshot) : (modifySnapshot v e f s).rsq = s.rsq := rfl
@[simp] theorem modifySnapshot_channels (v e : Nat) (f : Snapshot → Snapshot) : (modifySnapshot v e f s).channels = s.channels := rfl
@[simp] theorem modifySnapshot_dpu (v e : Nat) (f : Snapshot → Snapshot) : (modifySnapshot v e f s).dpu = s.dpu := rfl
@[simp] theorem modifySnapshot_arb (v e : Nat) (f : Snapshot → Snapshot) : (modifySnapshot v e f s).arb = s.arb := rfl
@[simp] theorem modifySnapshot_sent (v e : Nat) (f : Snapshot → Snapshot) : (modifySnapshot v e f s).sent = s.sent := rfl
@[simp] theorem modifySnapshot_pending (v e : Nat) (f : Snapshot → Snapshot) : (modifySnapshot v e f s).pending = s.pending := rfl

/-! ## `setExtent` -/

@[simp] theorem setExtent_part (x : Nat) (e : Extent) : (setExtent x e s).part = s.part := rfl
@[simp] theorem setExtent_clock (x : Nat) (e : Extent) : (setExtent x e s).clock = s.clock := rfl
@[simp] theorem setExtent_journal (x : Nat) (e : Extent) : (setExtent x e s).journal = s.journal := rfl
@[simp] theorem setExtent_accounts (x : Nat) (e : Extent) : (setExtent x e s).accounts = s.accounts := rfl
@[simp] theorem setExtent_volumes (x : Nat) (e : Extent) : (setExtent x e s).volumes = s.volumes := rfl
@[simp] theorem setExtent_settings (x : Nat) (e : Extent) : (setExtent x e s).settings = s.settings := rfl
@[simp] theorem setExtent_heads (x : Nat) (e : Extent) : (setExtent x e s).heads = s.heads := rfl
@[simp] theorem setExtent_mlu (x : Nat) (e : Extent) : (setExtent x e s).mlu = s.mlu := rfl
@[simp] theorem setExtent_epu (x : Nat) (e : Extent) : (setExtent x e s).epu = s.epu := rfl
@[simp] theorem setExtent_rsq (x : Nat) (e : Extent) : (setExtent x e s).rsq = s.rsq := rfl
@[simp] theorem setExtent_channels (x : Nat) (e : Extent) : (setExtent x e s).channels = s.channels := rfl
@[simp] theorem setExtent_dpu (x : Nat) (e : Extent) : (setExtent x e s).dpu = s.dpu := rfl
@[simp] theorem setExtent_arb (x : Nat) (e : Extent) : (setExtent x e s).arb = s.arb := rfl
@[simp] theorem setExtent_sent (x : Nat) (e : Extent) : (setExtent x e s).sent = s.sent := rfl
@[simp] theorem setExtent_pending (x : Nat) (e : Extent) : (setExtent x e s).pending = s.pending := rfl

/-! ## `setSlot` -/

@[simp] theorem setSlot_part (h : HeadId) (k : Nat) (x : Slot) : (setSlot h k x s).part = s.part := rfl
@[simp] theorem setSlot_clock (h : HeadId) (k : Nat) (x : Slot) : (setSlot h k x s).clock = s.clock := rfl
@[simp] theorem setSlot_pool (h : HeadId) (k : Nat) (x : Slot) : (setSlot h k x s).pool = s.pool := rfl
@[simp] theorem setSlot_journal (h : HeadId) (k : Nat) (x : Slot) : (setSlot h k x s).journal = s.journal := rfl
@[simp] theorem setSlot_accounts (h : HeadId) (k : Nat) (x : Slot) : (setSlot h k x s).accounts = s.accounts := rfl
@[simp] theorem setSlot_volumes (h : HeadId) (k : Nat) (x : Slot) : (setSlot h k x s).volumes = s.volumes := rfl
@[simp] theorem setSlot_settings (h : HeadId) (k : Nat) (x : Slot) : (setSlot h k x s).settings = s.settings := rfl
@[simp] theorem setSlot_mlu (h : HeadId) (k : Nat) (x : Slot) : (setSlot h k x s).mlu = s.mlu := rfl
@[simp] theorem setSlot_epu (h : HeadId) (k : Nat) (x : Slot) : (setSlot h k x s).epu = s.epu := rfl
@[simp] theorem setSlot_rsq (h : HeadId) (k : Nat) (x : Slot) : (setSlot h k x s).rsq = s.rsq := rfl
@[simp] theorem setSlot_channels (h : HeadId) (k : Nat) (x : Slot) : (setSlot h k x s).channels = s.channels := rfl
@[simp] theorem setSlot_dpu (h : HeadId) (k : Nat) (x : Slot) : (setSlot h k x s).dpu = s.dpu := rfl
@[simp] theorem setSlot_arb (h : HeadId) (k : Nat) (x : Slot) : (setSlot h k x s).arb = s.arb := rfl
@[simp] theorem setSlot_sent (h : HeadId) (k : Nat) (x : Slot) : (setSlot h k x s).sent = s.sent := rfl
@[simp] theorem setSlot_pending (h : HeadId) (k : Nat) (x : Slot) : (setSlot h k x s).pending = s.pending := rfl

/-! ## `grantTurn` -/

@[simp] theorem grantTurn_part (a : Nat) (b : Bool) : (grantTurn a b s).part = s.part := rfl
@[simp] theorem grantTurn_clock (a : Nat) (b : Bool) : (grantTurn a b s).clock = s.clock := rfl
@[simp] theorem grantTurn_pool (a : Nat) (b : Bool) : (grantTurn a b s).pool = s.pool := rfl
@[simp] theorem grantTurn_journal (a : Nat) (b : Bool) : (grantTurn a b s).journal = s.journal := rfl
@[simp] theorem grantTurn_accounts (a : Nat) (b : Bool) : (grantTurn a b s).accounts = s.accounts := rfl
@[simp] theorem grantTurn_volumes (a : Nat) (b : Bool) : (grantTurn a b s).volumes = s.volumes := rfl
@[simp] theorem grantTurn_settings (a : Nat) (b : Bool) : (grantTurn a b s).settings = s.settings := rfl
@[simp] theorem grantTurn_heads (a : Nat) (b : Bool) : (grantTurn a b s).heads = s.heads := rfl
@[simp] theorem grantTurn_mlu (a : Nat) (b : Bool) : (grantTurn a b s).mlu = s.mlu := rfl
@[simp] theorem grantTurn_epu (a : Nat) (b : Bool) : (grantTurn a b s).epu = s.epu := rfl
@[simp] theorem grantTurn_rsq (a : Nat) (b : Bool) : (grantTurn a b s).rsq = s.rsq := rfl
@[simp] theorem grantTurn_channels (a : Nat) (b : Bool) : (grantTurn a b s).channels = s.channels := rfl
@[simp] theorem grantTurn_dpu (a : Nat) (b : Bool) : (grantTurn a b s).dpu = s.dpu := rfl
@[simp] theorem grantTurn_sent (a : Nat) (b : Bool) : (grantTurn a b s).sent = s.sent := rfl
@[simp] theorem grantTurn_pending (a : Nat) (b : Bool) : (grantTurn a b s).pending = s.pending := rfl

/-! ## `popRequest` -/

@[simp] theorem popRequest_part (l : Link) : (popRequest l s).part = s.part := by cases l <;> rfl
@[simp] theorem popRequest_clock (l : Link) : (popRequest l s).clock = s.clock := by cases l <;> rfl
@[simp] theorem popRequest_pool (l : Link) : (popRequest l s).pool = s.pool := by cases l <;> rfl
@[simp] theorem popRequest_journal (l : Link) : (popRequest l s).journal = s.journal := by cases l <;> rfl
@[simp] theorem popRequest_accounts (l : Link) : (popRequest l s).accounts = s.accounts := by cases l <;> rfl
@[simp] theorem popRequest_volumes (l : Link) : (popRequest l s).volumes = s.volumes := by cases l <;> rfl
@[simp] theorem popRequest_settings (l : Link) : (popRequest l s).settings = s.settings := by cases l <;> rfl
@[simp] theorem popRequest_epu (l : Link) : (popRequest l s).epu = s.epu := by cases l <;> rfl
@[simp] theorem popRequest_rsq (l : Link) : (popRequest l s).rsq = s.rsq := by cases l <;> rfl
@[simp] theorem popRequest_channels (l : Link) : (popRequest l s).channels = s.channels := by cases l <;> rfl
@[simp] theorem popRequest_dpu (l : Link) : (popRequest l s).dpu = s.dpu := by cases l <;> rfl
@[simp] theorem popRequest_arb (l : Link) : (popRequest l s).arb = s.arb := by cases l <;> rfl
@[simp] theorem popRequest_sent (l : Link) : (popRequest l s).sent = s.sent := by cases l <;> rfl
@[simp] theorem popRequest_pending (l : Link) : (popRequest l s).pending = s.pending := by cases l <;> rfl

/-! ## `placeMl` -/

@[simp] theorem placeMl_part (n : Notice) : (placeMl n s).part = s.part := by
  unfold placeMl
  split <;> rfl
@[simp] theorem placeMl_clock (n : Notice) : (placeMl n s).clock = s.clock := by
  unfold placeMl
  split <;> rfl
@[simp] theorem placeMl_pool (n : Notice) : (placeMl n s).pool = s.pool := by
  unfold placeMl
  split <;> rfl
@[simp] theorem placeMl_journal (n : Notice) : (placeMl n s).journal = s.journal := by
  unfold placeMl
  split <;> rfl
@[simp] theorem placeMl_accounts (n : Notice) : (placeMl n s).accounts = s.accounts := by
  unfold placeMl
  split <;> rfl
@[simp] theorem placeMl_volumes (n : Notice) : (placeMl n s).volumes = s.volumes := by
  unfold placeMl
  split <;> rfl
@[simp] theorem placeMl_settings (n : Notice) : (placeMl n s).settings = s.settings := by
  unfold placeMl
  split <;> rfl
@[simp] theorem placeMl_heads (n : Notice) : (placeMl n s).heads = s.heads := by
  unfold placeMl
  split <;> rfl
@[simp] theorem placeMl_epu (n : Notice) : (placeMl n s).epu = s.epu := by
  unfold placeMl
  split <;> rfl
@[simp] theorem placeMl_rsq (n : Notice) : (placeMl n s).rsq = s.rsq := by
  unfold placeMl
  split <;> rfl
@[simp] theorem placeMl_channels (n : Notice) : (placeMl n s).channels = s.channels := by
  unfold placeMl
  split <;> rfl
@[simp] theorem placeMl_dpu (n : Notice) : (placeMl n s).dpu = s.dpu := by
  unfold placeMl
  split <;> rfl
@[simp] theorem placeMl_arb (n : Notice) : (placeMl n s).arb = s.arb := by
  unfold placeMl
  split <;> rfl
@[simp] theorem placeMl_sent (n : Notice) : (placeMl n s).sent = s.sent := by
  unfold placeMl
  split <;> rfl
@[simp] theorem placeMl_pending (n : Notice) : (placeMl n s).pending = s.pending := by
  unfold placeMl
  split <;> rfl

/-! ## `placeHead` -/

@[simp] theorem placeHead_part (h : HeadId) (n : Notice) : (placeHead h n s).part = s.part := by
  unfold placeHead
  split <;> rfl
@[simp] theorem placeHead_clock (h : HeadId) (n : Notice) : (placeHead h n s).clock = s.clock := by
  unfold placeHead
  split <;> rfl
@[simp] theorem placeHead_pool (h : HeadId) (n : Notice) : (placeHead h n s).pool = s.pool := by
  unfold placeHead
  split <;> rfl
@[simp] theorem placeHead_journal (h : HeadId) (n : Notice) : (placeHead h n s).journal = s.journal := by
  unfold placeHead
  split <;> rfl
@[simp] theorem placeHead_accounts (h : HeadId) (n : Notice) : (placeHead h n s).accounts = s.accounts := by
  unfold placeHead
  split <;> rfl
@[simp] theorem placeHead_volumes (h : HeadId) (n : Notice) : (placeHead h n s).volumes = s.volumes := by
  unfold placeHead
  split <;> rfl
@[simp] theorem placeHead_settings (h : HeadId) (n : Notice) : (placeHead h n s).settings = s.settings := by
  unfold placeHead
  split <;> rfl
@[simp] theorem placeHead_mlu (h : HeadId) (n : Notice) : (placeHead h n s).mlu = s.mlu := by
  unfold placeHead
  split <;> rfl
@[simp] theorem placeHead_epu (h : HeadId) (n : Notice) : (placeHead h n s).epu = s.epu := by
  unfold placeHead
  split <;> rfl
@[simp] theorem placeHead_rsq (h : HeadId) (n : Notice) : (placeHead h n s).rsq = s.rsq := by
  unfold placeHead
  split <;> rfl
@[simp] theorem placeHead_channels (h : HeadId) (n : Notice) : (placeHead h n s).channels = s.channels := by
  unfold placeHead
  split <;> rfl
@[simp] theorem placeHead_dpu (h : HeadId) (n : Notice) : (placeHead h n s).dpu = s.dpu := by
  unfold placeHead
  split <;> rfl
@[simp] theorem placeHead_arb (h : HeadId) (n : Notice) : (placeHead h n s).arb = s.arb := by
  unfold placeHead
  split <;> rfl
@[simp] theorem placeHead_sent (h : HeadId) (n : Notice) : (placeHead h n s).sent = s.sent := by
  unfold placeHead
  split <;> rfl
@[simp] theorem placeHead_pending (h : HeadId) (n : Notice) : (placeHead h n s).pending = s.pending := by
  unfold placeHead
  split <;> rfl

/-! ## `answer` -/

@[simp] theorem answer_part (c : Nat) (l : Link) (i tag : Nat) (r : Reply) : (answer c l i tag r s).part = s.part := by
  unfold answer
  split <;> (try split) <;> rfl
@[simp] theorem answer_clock (c : Nat) (l : Link) (i tag : Nat) (r : Reply) : (answer c l i tag r s).clock = s.clock := by
  unfold answer
  split <;> (try split) <;> rfl
@[simp] theorem answer_pool (c : Nat) (l : Link) (i tag : Nat) (r : Reply) : (answer c l i tag r s).pool = s.pool := by
  unfold answer
  split <;> (try split) <;> rfl
@[simp] theorem answer_journal (c : Nat) (l : Link) (i tag : Nat) (r : Reply) : (answer c l i tag r s).journal = s.journal := by
  unfold answer
  split <;> (try split) <;> rfl
@[simp] theorem answer_accounts (c : Nat) (l : Link) (i tag : Nat) (r : Reply) : (answer c l i tag r s).accounts = s.accounts := by
  unfold answer
  split <;> (try split) <;> rfl
@[simp] theorem answer_volumes (c : Nat) (l : Link) (i tag : Nat) (r : Reply) : (answer c l i tag r s).volumes = s.volumes := by
  unfold answer
  split <;> (try split) <;> rfl
@[simp] theorem answer_settings (c : Nat) (l : Link) (i tag : Nat) (r : Reply) : (answer c l i tag r s).settings = s.settings := by
  unfold answer
  split <;> (try split) <;> rfl
@[simp] theorem answer_epu (c : Nat) (l : Link) (i tag : Nat) (r : Reply) : (answer c l i tag r s).epu = s.epu := by
  unfold answer
  split <;> (try split) <;> rfl
@[simp] theorem answer_rsq (c : Nat) (l : Link) (i tag : Nat) (r : Reply) : (answer c l i tag r s).rsq = s.rsq := by
  unfold answer
  split <;> (try split) <;> rfl
@[simp] theorem answer_channels (c : Nat) (l : Link) (i tag : Nat) (r : Reply) : (answer c l i tag r s).channels = s.channels := by
  unfold answer
  split <;> (try split) <;> rfl
@[simp] theorem answer_dpu (c : Nat) (l : Link) (i tag : Nat) (r : Reply) : (answer c l i tag r s).dpu = s.dpu := by
  unfold answer
  split <;> (try split) <;> rfl
@[simp] theorem answer_arb (c : Nat) (l : Link) (i tag : Nat) (r : Reply) : (answer c l i tag r s).arb = s.arb := by
  unfold answer
  split <;> (try split) <;> rfl
@[simp] theorem answer_pending (c : Nat) (l : Link) (i tag : Nat) (r : Reply) : (answer c l i tag r s).pending = s.pending := by
  unfold answer
  split <;> (try split) <;> rfl

/-! ## `presentAgent` -/

@[simp] theorem presentAgent_part (a : Nat) : (presentAgent s a).part = s.part := by
  unfold presentAgent
  split <;> (try split) <;> rfl
@[simp] theorem presentAgent_clock (a : Nat) : (presentAgent s a).clock = s.clock := by
  unfold presentAgent
  split <;> (try split) <;> rfl
@[simp] theorem presentAgent_pool (a : Nat) : (presentAgent s a).pool = s.pool := by
  unfold presentAgent
  split <;> (try split) <;> rfl
@[simp] theorem presentAgent_journal (a : Nat) : (presentAgent s a).journal = s.journal := by
  unfold presentAgent
  split <;> (try split) <;> rfl
@[simp] theorem presentAgent_accounts (a : Nat) : (presentAgent s a).accounts = s.accounts := by
  unfold presentAgent
  split <;> (try split) <;> rfl
@[simp] theorem presentAgent_volumes (a : Nat) : (presentAgent s a).volumes = s.volumes := by
  unfold presentAgent
  split <;> (try split) <;> rfl
@[simp] theorem presentAgent_settings (a : Nat) : (presentAgent s a).settings = s.settings := by
  unfold presentAgent
  split <;> (try split) <;> rfl
@[simp] theorem presentAgent_heads (a : Nat) : (presentAgent s a).heads = s.heads := by
  unfold presentAgent
  split <;> (try split) <;> rfl
@[simp] theorem presentAgent_mlu (a : Nat) : (presentAgent s a).mlu = s.mlu := by
  unfold presentAgent
  split <;> (try split) <;> rfl
@[simp] theorem presentAgent_epu (a : Nat) : (presentAgent s a).epu = s.epu := by
  unfold presentAgent
  split <;> (try split) <;> rfl
@[simp] theorem presentAgent_rsq (a : Nat) : (presentAgent s a).rsq = s.rsq := by
  unfold presentAgent
  split <;> (try split) <;> rfl
@[simp] theorem presentAgent_channels (a : Nat) : (presentAgent s a).channels = s.channels := by
  unfold presentAgent
  split <;> (try split) <;> rfl
@[simp] theorem presentAgent_dpu (a : Nat) : (presentAgent s a).dpu = s.dpu := by
  unfold presentAgent
  split <;> (try split) <;> rfl
@[simp] theorem presentAgent_sent (a : Nat) : (presentAgent s a).sent = s.sent := by
  unfold presentAgent
  split <;> (try split) <;> rfl
@[simp] theorem presentAgent_pending (a : Nat) : (presentAgent s a).pending = s.pending := by
  unfold presentAgent
  split <;> (try split) <;> rfl

/-! ## `presentClock` -/

@[simp] theorem presentClock_part (f : CkWork → Bool) : (presentClock f s).part = s.part := by
  unfold presentClock
  repeat' split
  all_goals rfl
@[simp] theorem presentClock_clock (f : CkWork → Bool) : (presentClock f s).clock = s.clock := by
  unfold presentClock
  repeat' split
  all_goals rfl
@[simp] theorem presentClock_pool (f : CkWork → Bool) : (presentClock f s).pool = s.pool := by
  unfold presentClock
  repeat' split
  all_goals rfl
@[simp] theorem presentClock_journal (f : CkWork → Bool) : (presentClock f s).journal = s.journal := by
  unfold presentClock
  repeat' split
  all_goals rfl
@[simp] theorem presentClock_accounts (f : CkWork → Bool) : (presentClock f s).accounts = s.accounts := by
  unfold presentClock
  repeat' split
  all_goals rfl
@[simp] theorem presentClock_volumes (f : CkWork → Bool) : (presentClock f s).volumes = s.volumes := by
  unfold presentClock
  repeat' split
  all_goals rfl
@[simp] theorem presentClock_settings (f : CkWork → Bool) : (presentClock f s).settings = s.settings := by
  unfold presentClock
  repeat' split
  all_goals rfl
@[simp] theorem presentClock_heads (f : CkWork → Bool) : (presentClock f s).heads = s.heads := by
  unfold presentClock
  repeat' split
  all_goals rfl
@[simp] theorem presentClock_mlu (f : CkWork → Bool) : (presentClock f s).mlu = s.mlu := by
  unfold presentClock
  repeat' split
  all_goals rfl
@[simp] theorem presentClock_epu (f : CkWork → Bool) : (presentClock f s).epu = s.epu := by
  unfold presentClock
  repeat' split
  all_goals rfl
@[simp] theorem presentClock_rsq (f : CkWork → Bool) : (presentClock f s).rsq = s.rsq := by
  unfold presentClock
  repeat' split
  all_goals rfl
@[simp] theorem presentClock_channels (f : CkWork → Bool) : (presentClock f s).channels = s.channels := by
  unfold presentClock
  repeat' split
  all_goals rfl
@[simp] theorem presentClock_dpu (f : CkWork → Bool) : (presentClock f s).dpu = s.dpu := by
  unfold presentClock
  repeat' split
  all_goals rfl
@[simp] theorem presentClock_sent (f : CkWork → Bool) : (presentClock f s).sent = s.sent := by
  unfold presentClock
  repeat' split
  all_goals rfl
@[simp] theorem presentClock_pending (f : CkWork → Bool) : (presentClock f s).pending = s.pending := by
  unfold presentClock
  repeat' split
  all_goals rfl

/-! ## `noteWindow` -/

@[simp] theorem noteWindow_part : (noteWindow s).part = s.part := by
  unfold noteWindow
  repeat' split
  all_goals rfl
@[simp] theorem noteWindow_pool : (noteWindow s).pool = s.pool := by
  unfold noteWindow
  repeat' split
  all_goals rfl
@[simp] theorem noteWindow_journal : (noteWindow s).journal = s.journal := by
  unfold noteWindow
  repeat' split
  all_goals rfl
@[simp] theorem noteWindow_accounts : (noteWindow s).accounts = s.accounts := by
  unfold noteWindow
  repeat' split
  all_goals rfl
@[simp] theorem noteWindow_volumes : (noteWindow s).volumes = s.volumes := by
  unfold noteWindow
  repeat' split
  all_goals rfl
@[simp] theorem noteWindow_settings : (noteWindow s).settings = s.settings := by
  unfold noteWindow
  repeat' split
  all_goals rfl
@[simp] theorem noteWindow_heads : (noteWindow s).heads = s.heads := by
  unfold noteWindow
  repeat' split
  all_goals rfl
@[simp] theorem noteWindow_mlu : (noteWindow s).mlu = s.mlu := by
  unfold noteWindow
  repeat' split
  all_goals rfl
@[simp] theorem noteWindow_epu : (noteWindow s).epu = s.epu := by
  unfold noteWindow
  repeat' split
  all_goals rfl
@[simp] theorem noteWindow_rsq : (noteWindow s).rsq = s.rsq := by
  unfold noteWindow
  repeat' split
  all_goals rfl
@[simp] theorem noteWindow_channels : (noteWindow s).channels = s.channels := by
  unfold noteWindow
  repeat' split
  all_goals rfl
@[simp] theorem noteWindow_dpu : (noteWindow s).dpu = s.dpu := by
  unfold noteWindow
  repeat' split
  all_goals rfl
@[simp] theorem noteWindow_arb : (noteWindow s).arb = s.arb := by
  unfold noteWindow
  repeat' split
  all_goals rfl
@[simp] theorem noteWindow_sent : (noteWindow s).sent = s.sent := by
  unfold noteWindow
  repeat' split
  all_goals rfl
@[simp] theorem noteWindow_pending : (noteWindow s).pending = s.pending := by
  unfold noteWindow
  repeat' split
  all_goals rfl

/-! ## What is changed -/

@[simp] theorem fresh_sent : s.fresh.sent = [] := rfl

@[simp] theorem modifyHead_get (h g : HeadId) (f : Head → Head) :
    (modifyHead h f s).heads.get g = if g = h then f (s.heads.get h) else s.heads.get g := Quad.get_set ..

@[simp] theorem modifyChannel_get (c d : ChanId) (f : Channel → Channel) :
    (modifyChannel c f s).channels.get d = if d = c then f (s.channels.get c) else s.channels.get d := Quad.get_set ..

@[simp] theorem modifyVolume_look (v w : Nat) (f : Volume → Volume) :
    look (modifyVolume v f s).volumes w = if w = v then (look s.volumes w).map f else look s.volumes w := look_adjust ..

@[simp] theorem modifyAccount_look (n m : Nat) (f : Account → Account) :
    look (modifyAccount n f s).accounts m = if m = n then (look s.accounts m).map f else look s.accounts m := look_adjust ..

/-! ## `present` -/

/-- Presenting changes the arbiter and nothing else. -/
theorem present_eq : present s = { s with arb := (present s).arb } := by
  have fold : ∀ (l : List Nat) (s : State), l.foldl presentAgent s = { s with arb := (l.foldl presentAgent s).arb } := by
    intro l
    induction l with
    | nil => intro s; rfl
    | cons a l ih =>
      intro s
      rw [List.foldl_cons, ih]
      simp
  unfold present
  split
  · exact fold _ s
  · rfl

@[simp] theorem present_part : (present s).part = s.part := by rw [present_eq]
@[simp] theorem present_clock : (present s).clock = s.clock := by rw [present_eq]
@[simp] theorem present_pool : (present s).pool = s.pool := by rw [present_eq]
@[simp] theorem present_journal : (present s).journal = s.journal := by rw [present_eq]
@[simp] theorem present_accounts : (present s).accounts = s.accounts := by rw [present_eq]
@[simp] theorem present_volumes : (present s).volumes = s.volumes := by rw [present_eq]
@[simp] theorem present_settings : (present s).settings = s.settings := by rw [present_eq]
@[simp] theorem present_heads : (present s).heads = s.heads := by rw [present_eq]
@[simp] theorem present_mlu : (present s).mlu = s.mlu := by rw [present_eq]
@[simp] theorem present_epu : (present s).epu = s.epu := by rw [present_eq]
@[simp] theorem present_rsq : (present s).rsq = s.rsq := by rw [present_eq]
@[simp] theorem present_channels : (present s).channels = s.channels := by rw [present_eq]
@[simp] theorem present_dpu : (present s).dpu = s.dpu := by rw [present_eq]
@[simp] theorem present_sent : (present s).sent = s.sent := by rw [present_eq]
@[simp] theorem present_pending : (present s).pending = s.pending := by rw [present_eq]

/-- What an agent waits with after agent `b` has presented. -/
theorem presentAgent_look (a b : Nat) : look (presentAgent s b).arb.waiting a =
    if a = b ∧ look s.arb.waiting b = none then (nextWork s b).map fun x => ⟨x.1, 0, x.2⟩ else look s.arb.waiting a := by
  unfold presentAgent
  by_cases hab : a = b
  · subst hab
    cases hw : look s.arb.waiting a with
    | some w => simp [hw]
    | none => cases nextWork s a <;> simp [hw, look_put_self]
  · cases look s.arb.waiting b with
    | some w => simp [hab]
    | none => cases nextWork s b <;> simp [hab, look_put_ne _ _ hab]

/-- What an agent has to present does not depend on what waits. -/
theorem nextWork_presentAgent (a b : Nat) : nextWork (presentAgent s b) a = nextWork s a := by
  unfold presentAgent
  cases look s.arb.waiting b with
  | some _ => rfl
  | none => cases nextWork s b <;> rfl

/-- R162: what waits after the agents have presented: an agent that waited waits with the same, and one of agents 0 to 7
that did not waits with what it has, at age 0. -/
theorem present_look (hp : s.part = .running) (a : Nat) : look (present s).arb.waiting a =
    if a < 8 ∧ look s.arb.waiting a = none then (nextWork s a).map fun x => ⟨x.1, 0, x.2⟩ else look s.arb.waiting a := by
  have fold : ∀ (l : List Nat) (s : State), look (l.foldl presentAgent s).arb.waiting a =
      if a ∈ l ∧ look s.arb.waiting a = none then (nextWork s a).map fun x => ⟨x.1, 0, x.2⟩ else look s.arb.waiting a := by
    intro l
    induction l with
    | nil => intro s; simp
    | cons b l ih =>
      intro s
      simp only [List.foldl_cons, ih, presentAgent_look, nextWork_presentAgent, List.mem_cons]
      by_cases hab : a = b
      · subst hab
        by_cases hn : look s.arb.waiting a = none <;> simp [hn]
      · simp [hab]
  rw [present, if_pos hp, fold]
  simp

/-- Presenting leaves both pointers of the arbiter. -/
theorem present_pointers :
    (present s).arb.slotPointer = s.arb.slotPointer ∧ (present s).arb.roundRobin = s.arb.roundRobin := by
  have one : ∀ (s : State) (b : Nat),
      (presentAgent s b).arb.slotPointer = s.arb.slotPointer ∧ (presentAgent s b).arb.roundRobin = s.arb.roundRobin := by
    intro s b; unfold presentAgent
    cases look s.arb.waiting b with
    | some _ => exact ⟨rfl, rfl⟩
    | none => cases nextWork s b <;> exact ⟨rfl, rfl⟩
  have fold : ∀ (l : List Nat) (s : State), (l.foldl presentAgent s).arb.slotPointer = s.arb.slotPointer ∧
      (l.foldl presentAgent s).arb.roundRobin = s.arb.roundRobin := by
    intro l
    induction l with
    | nil => intro s; exact ⟨rfl, rfl⟩
    | cons b l ih => intro s; rw [List.foldl_cons, (ih _).1, (ih _).2]; exact one s b
  unfold present
  split
  · exact fold _ s
  · exact ⟨rfl, rfl⟩

end Sys2Proof.Machine
end

