-- ==== Sys2Proof/Laws/Ops.lean ====
section
/-! SUPPORT. What each shared operation of the commands leaves as it was: one lemma for each field, and one equation that
says which fields it may change. -/

namespace Sys2Proof.Machine

variable (s : State)

/-- Two states are equal when their fields are. -/
theorem State.eq_of {s t : State} (h1 : s.part = t.part) (h2 : s.clock = t.clock) (h3 : s.pool = t.pool)
    (h4 : s.journal = t.journal) (h5 : s.accounts = t.accounts) (h6 : s.volumes = t.volumes)
    (h7 : s.settings = t.settings) (h8 : s.heads = t.heads) (h9 : s.mlu = t.mlu) (h10 : s.epu = t.epu)
    (h11 : s.rsq = t.rsq) (h12 : s.channels = t.channels) (h13 : s.dpu = t.dpu) (h14 : s.arb = t.arb)
    (h15 : s.sent = t.sent) (h16 : s.pending = t.pending) : s = t := by
  cases s; cases t; simp_all

/-! ## `broadcast` -/

@[simp] theorem broadcast_part (f : Head → Bool) (n : Notice) : (broadcast f n s).part = s.part := by
  have : ∀ l : List HeadId, (l.foldl (fun s h => if f (s.heads.get h) then placeHead h n s else s) s).part = s.part := by
    intro l
    induction l generalizing s with
    | nil => rfl
    | cons a l ih => rw [List.foldl_cons, ih]; split <;> simp
  simp [broadcast, this]
@[simp] theorem broadcast_clock (f : Head → Bool) (n : Notice) : (broadcast f n s).clock = s.clock := by
  have : ∀ l : List HeadId, (l.foldl (fun s h => if f (s.heads.get h) then placeHead h n s else s) s).clock = s.clock := by
    intro l
    induction l generalizing s with
    | nil => rfl
    | cons a l ih => rw [List.foldl_cons, ih]; split <;> simp
  simp [broadcast, this]
@[simp] theorem broadcast_pool (f : Head → Bool) (n : Notice) : (broadcast f n s).pool = s.pool := by
  have : ∀ l : List HeadId, (l.foldl (fun s h => if f (s.heads.get h) then placeHead h n s else s) s).pool = s.pool := by
    intro l
    induction l generalizing s with
    | nil => rfl
    | cons a l ih => rw [List.foldl_cons, ih]; split <;> simp
  simp [broadcast, this]
@[simp] theorem broadcast_journal (f : Head → Bool) (n : Notice) : (broadcast f n s).journal = s.journal := by
  have : ∀ l : List HeadId, (l.foldl (fun s h => if f (s.heads.get h) then placeHead h n s else s) s).journal = s.journal := by
    intro l
    induction l generalizing s with
    | nil => rfl
    | cons a l ih => rw [List.foldl_cons, ih]; split <;> simp
  simp [broadcast, this]
@[simp] theorem broadcast_accounts (f : Head → Bool) (n : Notice) : (broadcast f n s).accounts = s.accounts := by
  have : ∀ l : List HeadId, (l.foldl (fun s h => if f (s.heads.get h) then placeHead h n s else s) s).accounts = s.accounts := by
    intro l
    induction l generalizing s with
    | nil => rfl
    | cons a l ih => rw [List.foldl_cons, ih]; split <;> simp
  simp [broadcast, this]
@[simp] theorem broadcast_volumes (f : Head → Bool) (n : Notice) : (broadcast f n s).volumes = s.volumes := by
  have : ∀ l : List HeadId, (l.foldl (fun s h => if f (s.heads.get h) then placeHead h n s else s) s).volumes = s.volumes := by
    intro l
    induction l generalizing s with
    | nil => rfl
    | cons a l ih => rw [List.foldl_cons, ih]; split <;> simp
  simp [broadcast, this]
@[simp] theorem broadcast_settings (f : Head → Bool) (n : Notice) : (broadcast f n s).settings = s.settings := by
  have : ∀ l : List HeadId, (l.foldl (fun s h => if f (s.heads.get h) then placeHead h n s else s) s).settings = s.settings := by
    intro l
    induction l generalizing s with
    | nil => rfl
    | cons a l ih => rw [List.foldl_cons, ih]; split <;> simp
  simp [broadcast, this]
@[simp] theorem broadcast_epu (f : Head → Bool) (n : Notice) : (broadcast f n s).epu = s.epu := by
  have : ∀ l : List HeadId, (l.foldl (fun s h => if f (s.heads.get h) then placeHead h n s else s) s).epu = s.epu := by
    intro l
    induction l generalizing s with
    | nil => rfl
    | cons a l ih => rw [List.foldl_cons, ih]; split <;> simp
  simp [broadcast, this]
@[simp] theorem broadcast_rsq (f : Head → Bool) (n : Notice) : (broadcast f n s).rsq = s.rsq := by
  have : ∀ l : List HeadId, (l.foldl (fun s h => if f (s.heads.get h) then placeHead h n s else s) s).rsq = s.rsq := by
    intro l
    induction l generalizing s with
    | nil => rfl
    | cons a l ih => rw [List.foldl_cons, ih]; split <;> simp
  simp [broadcast, this]
@[simp] theorem broadcast_channels (f : Head → Bool) (n : Notice) : (broadcast f n s).channels = s.channels := by
  have : ∀ l : List HeadId, (l.foldl (fun s h => if f (s.heads.get h) then placeHead h n s else s) s).channels = s.channels := by
    intro l
    induction l generalizing s with
    | nil => rfl
    | cons a l ih => rw [List.foldl_cons, ih]; split <;> simp
  simp [broadcast, this]
@[simp] theorem broadcast_dpu (f : Head → Bool) (n : Notice) : (broadcast f n s).dpu = s.dpu := by
  have : ∀ l : List HeadId, (l.foldl (fun s h => if f (s.heads.get h) then placeHead h n s else s) s).dpu = s.dpu := by
    intro l
    induction l generalizing s with
    | nil => rfl
    | cons a l ih => rw [List.foldl_cons, ih]; split <;> simp
  simp [broadcast, this]
@[simp] theorem broadcast_arb (f : Head → Bool) (n : Notice) : (broadcast f n s).arb = s.arb := by
  have : ∀ l : List HeadId, (l.foldl (fun s h => if f (s.heads.get h) then placeHead h n s else s) s).arb = s.arb := by
    intro l
    induction l generalizing s with
    | nil => rfl
    | cons a l ih => rw [List.foldl_cons, ih]; split <;> simp
  simp [broadcast, this]
@[simp] theorem broadcast_sent (f : Head → Bool) (n : Notice) : (broadcast f n s).sent = s.sent := by
  have : ∀ l : List HeadId, (l.foldl (fun s h => if f (s.heads.get h) then placeHead h n s else s) s).sent = s.sent := by
    intro l
    induction l generalizing s with
    | nil => rfl
    | cons a l ih => rw [List.foldl_cons, ih]; split <;> simp
  simp [broadcast, this]
@[simp] theorem broadcast_pending (f : Head → Bool) (n : Notice) : (broadcast f n s).pending = s.pending := by
  have : ∀ l : List HeadId, (l.foldl (fun s h => if f (s.heads.get h) then placeHead h n s else s) s).pending = s.pending := by
    intro l
    induction l generalizing s with
    | nil => rfl
    | cons a l ih => rw [List.foldl_cons, ih]; split <;> simp
  simp [broadcast, this]

/-- `broadcast` changes no more than heads, mlu. -/
theorem broadcast_eq (f : Head → Bool) (n : Notice) : broadcast f n s =
    { s with heads := (broadcast f n s).heads, mlu := (broadcast f n s).mlu } := by
  apply State.eq_of
  all_goals simp

/-! ## `withGroup` -/

@[simp] theorem withGroup_part (n : Nat) (f : Account → Account) : (withGroup n f s).part = s.part := by
  unfold withGroup
  repeat' split
  all_goals simp
@[simp] theorem withGroup_clock (n : Nat) (f : Account → Account) : (withGroup n f s).clock = s.clock := by
  unfold withGroup
  repeat' split
  all_goals simp
@[simp] theorem withGroup_pool (n : Nat) (f : Account → Account) : (withGroup n f s).pool = s.pool := by
  unfold withGroup
  repeat' split
  all_goals simp
@[simp] theorem withGroup_journal (n : Nat) (f : Account → Account) : (withGroup n f s).journal = s.journal := by
  unfold withGroup
  repeat' split
  all_goals simp
@[simp] theorem withGroup_volumes (n : Nat) (f : Account → Account) : (withGroup n f s).volumes = s.volumes := by
  unfold withGroup
  repeat' split
  all_goals simp
@[simp] theorem withGroup_settings (n : Nat) (f : Account → Account) : (withGroup n f s).settings = s.settings := by
  unfold withGroup
  repeat' split
  all_goals simp
@[simp] theorem withGroup_heads (n : Nat) (f : Account → Account) : (withGroup n f s).heads = s.heads := by
  unfold withGroup
  repeat' split
  all_goals simp
@[simp] theorem withGroup_mlu (n : Nat) (f : Account → Account) : (withGroup n f s).mlu = s.mlu := by
  unfold withGroup
  repeat' split
  all_goals simp
@[simp] theorem withGroup_epu (n : Nat) (f : Account → Account) : (withGroup n f s).epu = s.epu := by
  unfold withGroup
  repeat' split
  all_goals simp
@[simp] theorem withGroup_rsq (n : Nat) (f : Account → Account) : (withGroup n f s).rsq = s.rsq := by
  unfold withGroup
  repeat' split
  all_goals simp
@[simp] theorem withGroup_channels (n : Nat) (f : Account → Account) : (withGroup n f s).channels = s.channels := by
  unfold withGroup
  repeat' split
  all_goals simp
@[simp] theorem withGroup_dpu (n : Nat) (f : Account → Account) : (withGroup n f s).dpu = s.dpu := by
  unfold withGroup
  repeat' split
  all_goals simp
@[simp] theorem withGroup_arb (n : Nat) (f : Account → Account) : (withGroup n f s).arb = s.arb := by
  unfold withGroup
  repeat' split
  all_goals simp
@[simp] theorem withGroup_sent (n : Nat) (f : Account → Account) : (withGroup n f s).sent = s.sent := by
  unfold withGroup
  repeat' split
  all_goals simp
@[simp] theorem withGroup_pending (n : Nat) (f : Account → Account) : (withGroup n f s).pending = s.pending := by
  unfold withGroup
  repeat' split
  all_goals simp

/-- `withGroup` changes no more than accounts. -/
theorem withGroup_eq (n : Nat) (f : Account → Account) : withGroup n f s =
    { s with accounts := (withGroup n f s).accounts } := by
  apply State.eq_of
  all_goals simp

/-! ## `changeFigures` -/

@[simp] theorem changeFigures_part (n : Nat) (f : Figures → Figures) : (changeFigures n f s).part = s.part := by
  simp [changeFigures]
@[simp] theorem changeFigures_clock (n : Nat) (f : Figures → Figures) : (changeFigures n f s).clock = s.clock := by
  simp [changeFigures]
@[simp] theorem changeFigures_pool (n : Nat) (f : Figures → Figures) : (changeFigures n f s).pool = s.pool := by
  simp [changeFigures]
@[simp] theorem changeFigures_journal (n : Nat) (f : Figures → Figures) : (changeFigures n f s).journal = s.journal := by
  simp [changeFigures]
@[simp] theorem changeFigures_volumes (n : Nat) (f : Figures → Figures) : (changeFigures n f s).volumes = s.volumes := by
  simp [changeFigures]
@[simp] theorem changeFigures_settings (n : Nat) (f : Figures → Figures) : (changeFigures n f s).settings = s.settings := by
  simp [changeFigures]
@[simp] theorem changeFigures_heads (n : Nat) (f : Figures → Figures) : (changeFigures n f s).heads = s.heads := by
  simp [changeFigures]
@[simp] theorem changeFigures_mlu (n : Nat) (f : Figures → Figures) : (changeFigures n f s).mlu = s.mlu := by
  simp [changeFigures]
@[simp] theorem changeFigures_epu (n : Nat) (f : Figures → Figures) : (changeFigures n f s).epu = s.epu := by
  simp [changeFigures]
@[simp] theorem changeFigures_rsq (n : Nat) (f : Figures → Figures) : (changeFigures n f s).rsq = s.rsq := by
  simp [changeFigures]
@[simp] theorem changeFigures_channels (n : Nat) (f : Figures → Figures) : (changeFigures n f s).channels = s.channels := by
  simp [changeFigures]
@[simp] theorem changeFigures_dpu (n : Nat) (f : Figures → Figures) : (changeFigures n f s).dpu = s.dpu := by
  simp [changeFigures]
@[simp] theorem changeFigures_arb (n : Nat) (f : Figures → Figures) : (changeFigures n f s).arb = s.arb := by
  simp [changeFigures]
@[simp] theorem changeFigures_sent (n : Nat) (f : Figures → Figures) : (changeFigures n f s).sent = s.sent := by
  simp [changeFigures]
@[simp] theorem changeFigures_pending (n : Nat) (f : Figures → Figures) : (changeFigures n f s).pending = s.pending := by
  simp [changeFigures]

/-- `changeFigures` changes no more than accounts. -/
theorem changeFigures_eq (n : Nat) (f : Figures → Figures) : changeFigures n f s =
    { s with accounts := (changeFigures n f s).accounts } := by
  apply State.eq_of
  all_goals simp

/-! ## `changeStats` -/

@[simp] theorem changeStats_part (n : Nat) (f : Stats → Stats) : (changeStats n f s).part = s.part := by
  simp [changeStats]
@[simp] theorem changeStats_clock (n : Nat) (f : Stats → Stats) : (changeStats n f s).clock = s.clock := by
  simp [changeStats]
@[simp] theorem changeStats_pool (n : Nat) (f : Stats → Stats) : (changeStats n f s).pool = s.pool := by
  simp [changeStats]
@[simp] theorem changeStats_journal (n : Nat) (f : Stats → Stats) : (changeStats n f s).journal = s.journal := by
  simp [changeStats]
@[simp] theorem changeStats_volumes (n : Nat) (f : Stats → Stats) : (changeStats n f s).volumes = s.volumes := by
  simp [changeStats]
@[simp] theorem changeStats_settings (n : Nat) (f : Stats → Stats) : (changeStats n f s).settings = s.settings := by
  simp [changeStats]
@[simp] theorem changeStats_heads (n : Nat) (f : Stats → Stats) : (changeStats n f s).heads = s.heads := by
  simp [changeStats]
@[simp] theorem changeStats_mlu (n : Nat) (f : Stats → Stats) : (changeStats n f s).mlu = s.mlu := by
  simp [changeStats]
@[simp] theorem changeStats_epu (n : Nat) (f : Stats → Stats) : (changeStats n f s).epu = s.epu := by
  simp [changeStats]
@[simp] theorem changeStats_rsq (n : Nat) (f : Stats → Stats) : (changeStats n f s).rsq = s.rsq := by
  simp [changeStats]
@[simp] theorem changeStats_channels (n : Nat) (f : Stats → Stats) : (changeStats n f s).channels = s.channels := by
  simp [changeStats]
@[simp] theorem changeStats_dpu (n : Nat) (f : Stats → Stats) : (changeStats n f s).dpu = s.dpu := by
  simp [changeStats]
@[simp] theorem changeStats_arb (n : Nat) (f : Stats → Stats) : (changeStats n f s).arb = s.arb := by
  simp [changeStats]
@[simp] theorem changeStats_sent (n : Nat) (f : Stats → Stats) : (changeStats n f s).sent = s.sent := by
  simp [changeStats]
@[simp] theorem changeStats_pending (n : Nat) (f : Stats → Stats) : (changeStats n f s).pending = s.pending := by
  simp [changeStats]

/-- `changeStats` changes no more than accounts. -/
theorem changeStats_eq (n : Nat) (f : Stats → Stats) : changeStats n f s =
    { s with accounts := (changeStats n f s).accounts } := by
  apply State.eq_of
  all_goals simp

/-! ## `setQuota` -/

@[simp] theorem setQuota_part (n : Nat) (a : Account) (p : Person) (q : Quota) : (setQuota n a p q s).part = s.part := by
  simp [setQuota]
@[simp] theorem setQuota_clock (n : Nat) (a : Account) (p : Person) (q : Quota) : (setQuota n a p q s).clock = s.clock := by
  simp [setQuota]
@[simp] theorem setQuota_pool (n : Nat) (a : Account) (p : Person) (q : Quota) : (setQuota n a p q s).pool = s.pool := by
  simp [setQuota]
@[simp] theorem setQuota_journal (n : Nat) (a : Account) (p : Person) (q : Quota) : (setQuota n a p q s).journal = s.journal := by
  simp [setQuota]
@[simp] theorem setQuota_volumes (n : Nat) (a : Account) (p : Person) (q : Quota) : (setQuota n a p q s).volumes = s.volumes := by
  simp [setQuota]
@[simp] theorem setQuota_settings (n : Nat) (a : Account) (p : Person) (q : Quota) : (setQuota n a p q s).settings = s.settings := by
  simp [setQuota]
@[simp] theorem setQuota_epu (n : Nat) (a : Account) (p : Person) (q : Quota) : (setQuota n a p q s).epu = s.epu := by
  simp [setQuota]
@[simp] theorem setQuota_rsq (n : Nat) (a : Account) (p : Person) (q : Quota) : (setQuota n a p q s).rsq = s.rsq := by
  simp [setQuota]
@[simp] theorem setQuota_channels (n : Nat) (a : Account) (p : Person) (q : Quota) : (setQuota n a p q s).channels = s.channels := by
  simp [setQuota]
@[simp] theorem setQuota_dpu (n : Nat) (a : Account) (p : Person) (q : Quota) : (setQuota n a p q s).dpu = s.dpu := by
  simp [setQuota]
@[simp] theorem setQuota_arb (n : Nat) (a : Account) (p : Person) (q : Quota) : (setQuota n a p q s).arb = s.arb := by
  simp [setQuota]
@[simp] theorem setQuota_sent (n : Nat) (a : Account) (p : Person) (q : Quota) : (setQuota n a p q s).sent = s.sent := by
  simp [setQuota]
@[simp] theorem setQuota_pending (n : Nat) (a : Account) (p : Person) (q : Quota) : (setQuota n a p q s).pending = s.pending := by
  simp [setQuota]

/-- `setQuota` changes no more than accounts, heads, mlu. -/
theorem setQuota_eq (n : Nat) (a : Account) (p : Person) (q : Quota) : setQuota n a p q s =
    { s with accounts := (setQuota n a p q s).accounts, heads := (setQuota n a p q s).heads, mlu := (setQuota n a p q s).mlu } := by
  apply State.eq_of
  all_goals simp

/-! ## `reevaluate` -/

@[simp] theorem reevaluate_part (n : Nat) : (reevaluate n s).part = s.part := by
  simp only [reevaluate]
  repeat' split
  all_goals simp
@[simp] theorem reevaluate_clock (n : Nat) : (reevaluate n s).clock = s.clock := by
  simp only [reevaluate]
  repeat' split
  all_goals simp
@[simp] theorem reevaluate_pool (n : Nat) : (reevaluate n s).pool = s.pool := by
  simp only [reevaluate]
  repeat' split
  all_goals simp
@[simp] theorem reevaluate_journal (n : Nat) : (reevaluate n s).journal = s.journal := by
  simp only [reevaluate]
  repeat' split
  all_goals simp
@[simp] theorem reevaluate_volumes (n : Nat) : (reevaluate n s).volumes = s.volumes := by
  simp only [reevaluate]
  repeat' split
  all_goals simp
@[simp] theorem reevaluate_settings (n : Nat) : (reevaluate n s).settings = s.settings := by
  simp only [reevaluate]
  repeat' split
  all_goals simp
@[simp] theorem reevaluate_epu (n : Nat) : (reevaluate n s).epu = s.epu := by
  simp only [reevaluate]
  repeat' split
  all_goals simp
@[simp] theorem reevaluate_rsq (n : Nat) : (reevaluate n s).rsq = s.rsq := by
  simp only [reevaluate]
  repeat' split
  all_goals simp
@[simp] theorem reevaluate_channels (n : Nat) : (reevaluate n s).channels = s.channels := by
  simp only [reevaluate]
  repeat' split
  all_goals simp
@[simp] theorem reevaluate_dpu (n : Nat) : (reevaluate n s).dpu = s.dpu := by
  simp only [reevaluate]
  repeat' split
  all_goals simp
@[simp] theorem reevaluate_arb (n : Nat) : (reevaluate n s).arb = s.arb := by
  simp only [reevaluate]
  repeat' split
  all_goals simp
@[simp] theorem reevaluate_sent (n : Nat) : (reevaluate n s).sent = s.sent := by
  simp only [reevaluate]
  repeat' split
  all_goals simp
@[simp] theorem reevaluate_pending (n : Nat) : (reevaluate n s).pending = s.pending := by
  simp only [reevaluate]
  repeat' split
  all_goals simp

/-- `reevaluate` changes no more than accounts, heads, mlu. -/
theorem reevaluate_eq (n : Nat) : reevaluate n s =
    { s with accounts := (reevaluate n s).accounts, heads := (reevaluate n s).heads, mlu := (reevaluate n s).mlu } := by
  apply State.eq_of
  all_goals simp

/-! ## `enterFree` -/

@[simp] theorem enterFree_part (x v : Nat) : (enterFree x v s).part = s.part := by
  simp [enterFree]
@[simp] theorem enterFree_clock (x v : Nat) : (enterFree x v s).clock = s.clock := by
  simp [enterFree]
@[simp] theorem enterFree_journal (x v : Nat) : (enterFree x v s).journal = s.journal := by
  simp [enterFree]
@[simp] theorem enterFree_accounts (x v : Nat) : (enterFree x v s).accounts = s.accounts := by
  simp [enterFree]
@[simp] theorem enterFree_settings (x v : Nat) : (enterFree x v s).settings = s.settings := by
  simp [enterFree]
@[simp] theorem enterFree_heads (x v : Nat) : (enterFree x v s).heads = s.heads := by
  simp [enterFree]
@[simp] theorem enterFree_mlu (x v : Nat) : (enterFree x v s).mlu = s.mlu := by
  simp [enterFree]
@[simp] theorem enterFree_epu (x v : Nat) : (enterFree x v s).epu = s.epu := by
  simp [enterFree]
@[simp] theorem enterFree_rsq (x v : Nat) : (enterFree x v s).rsq = s.rsq := by
  simp [enterFree]
@[simp] theorem enterFree_channels (x v : Nat) : (enterFree x v s).channels = s.channels := by
  simp [enterFree]
@[simp] theorem enterFree_dpu (x v : Nat) : (enterFree x v s).dpu = s.dpu := by
  simp [enterFree]
@[simp] theorem enterFree_arb (x v : Nat) : (enterFree x v s).arb = s.arb := by
  simp [enterFree]
@[simp] theorem enterFree_sent (x v : Nat) : (enterFree x v s).sent = s.sent := by
  simp [enterFree]
@[simp] theorem enterFree_pending (x v : Nat) : (enterFree x v s).pending = s.pending := by
  simp [enterFree]

/-- `enterFree` changes no more than pool, volumes. -/
theorem enterFree_eq (x v : Nat) : enterFree x v s =
    { s with pool := (enterFree x v s).pool, volumes := (enterFree x v s).volumes } := by
  apply State.eq_of
  all_goals simp

/-! ## `leaveFree` -/

@[simp] theorem leaveFree_part (x : Nat) (e : Extent) : (leaveFree x e s).part = s.part := by
  simp [leaveFree]
@[simp] theorem leaveFree_clock (x : Nat) (e : Extent) : (leaveFree x e s).clock = s.clock := by
  simp [leaveFree]
@[simp] theorem leaveFree_journal (x : Nat) (e : Extent) : (leaveFree x e s).journal = s.journal := by
  simp [leaveFree]
@[simp] theorem leaveFree_accounts (x : Nat) (e : Extent) : (leaveFree x e s).accounts = s.accounts := by
  simp [leaveFree]
@[simp] theorem leaveFree_settings (x : Nat) (e : Extent) : (leaveFree x e s).settings = s.settings := by
  simp [leaveFree]
@[simp] theorem leaveFree_heads (x : Nat) (e : Extent) : (leaveFree x e s).heads = s.heads := by
  simp [leaveFree]
@[simp] theorem leaveFree_mlu (x : Nat) (e : Extent) : (leaveFree x e s).mlu = s.mlu := by
  simp [leaveFree]
@[simp] theorem leaveFree_epu (x : Nat) (e : Extent) : (leaveFree x e s).epu = s.epu := by
  simp [leaveFree]
@[simp] theorem leaveFree_rsq (x : Nat) (e : Extent) : (leaveFree x e s).rsq = s.rsq := by
  simp [leaveFree]
@[simp] theorem leaveFree_channels (x : Nat) (e : Extent) : (leaveFree x e s).channels = s.channels := by
  simp [leaveFree]
@[simp] theorem leaveFree_dpu (x : Nat) (e : Extent) : (leaveFree x e s).dpu = s.dpu := by
  simp [leaveFree]
@[simp] theorem leaveFree_arb (x : Nat) (e : Extent) : (leaveFree x e s).arb = s.arb := by
  simp [leaveFree]
@[simp] theorem leaveFree_sent (x : Nat) (e : Extent) : (leaveFree x e s).sent = s.sent := by
  simp [leaveFree]
@[simp] theorem leaveFree_pending (x : Nat) (e : Extent) : (leaveFree x e s).pending = s.pending := by
  simp [leaveFree]

/-- `leaveFree` changes no more than pool, volumes. -/
theorem leaveFree_eq (x : Nat) (e : Extent) : leaveFree x e s =
    { s with pool := (leaveFree x e s).pool, volumes := (leaveFree x e s).volumes } := by
  apply State.eq_of
  all_goals simp

/-! ## `freeReserved` -/

@[simp] theorem freeReserved_part (x : Nat) : (freeReserved x s).part = s.part := by
  unfold freeReserved
  repeat' split
  all_goals simp
@[simp] theorem freeReserved_clock (x : Nat) : (freeReserved x s).clock = s.clock := by
  unfold freeReserved
  repeat' split
  all_goals simp
@[simp] theorem freeReserved_journal (x : Nat) : (freeReserved x s).journal = s.journal := by
  unfold freeReserved
  repeat' split
  all_goals simp
@[simp] theorem freeReserved_accounts (x : Nat) : (freeReserved x s).accounts = s.accounts := by
  unfold freeReserved
  repeat' split
  all_goals simp
@[simp] theorem freeReserved_settings (x : Nat) : (freeReserved x s).settings = s.settings := by
  unfold freeReserved
  repeat' split
  all_goals simp
@[simp] theorem freeReserved_heads (x : Nat) : (freeReserved x s).heads = s.heads := by
  unfold freeReserved
  repeat' split
  all_goals simp
@[simp] theorem freeReserved_mlu (x : Nat) : (freeReserved x s).mlu = s.mlu := by
  unfold freeReserved
  repeat' split
  all_goals simp
@[simp] theorem freeReserved_epu (x : Nat) : (freeReserved x s).epu = s.epu := by
  unfold freeReserved
  repeat' split
  all_goals simp
@[simp] theorem freeReserved_rsq (x : Nat) : (freeReserved x s).rsq = s.rsq := by
  unfold freeReserved
  repeat' split
  all_goals simp
@[simp] theorem freeReserved_channels (x : Nat) : (freeReserved x s).channels = s.channels := by
  unfold freeReserved
  repeat' split
  all_goals simp
@[simp] theorem freeReserved_dpu (x : Nat) : (freeReserved x s).dpu = s.dpu := by
  unfold freeReserved
  repeat' split
  all_goals simp
@[simp] theorem freeReserved_arb (x : Nat) : (freeReserved x s).arb = s.arb := by
  unfold freeReserved
  repeat' split
  all_goals simp
@[simp] theorem freeReserved_sent (x : Nat) : (freeReserved x s).sent = s.sent := by
  unfold freeReserved
  repeat' split
  all_goals simp
@[simp] theorem freeReserved_pending (x : Nat) : (freeReserved x s).pending = s.pending := by
  unfold freeReserved
  repeat' split
  all_goals simp

/-- `freeReserved` changes no more than pool, volumes. -/
theorem freeReserved_eq (x : Nat) : freeReserved x s =
    { s with pool := (freeReserved x s).pool, volumes := (freeReserved x s).volumes } := by
  apply State.eq_of
  all_goals simp

/-! ## `stopChannel` -/

@[simp] theorem stopChannel_part (c : ChanId) (d : Condition) : (stopChannel c d s).part = s.part := by
  unfold stopChannel
  repeat' split
  all_goals simp
@[simp] theorem stopChannel_clock (c : ChanId) (d : Condition) : (stopChannel c d s).clock = s.clock := by
  unfold stopChannel
  repeat' split
  all_goals simp
@[simp] theorem stopChannel_pool (c : ChanId) (d : Condition) : (stopChannel c d s).pool = s.pool := by
  unfold stopChannel
  repeat' split
  all_goals simp
@[simp] theorem stopChannel_journal (c : ChanId) (d : Condition) : (stopChannel c d s).journal = s.journal := by
  unfold stopChannel
  repeat' split
  all_goals simp
@[simp] theorem stopChannel_accounts (c : ChanId) (d : Condition) : (stopChannel c d s).accounts = s.accounts := by
  unfold stopChannel
  repeat' split
  all_goals simp
@[simp] theorem stopChannel_volumes (c : ChanId) (d : Condition) : (stopChannel c d s).volumes = s.volumes := by
  unfold stopChannel
  repeat' split
  all_goals simp
@[simp] theorem stopChannel_settings (c : ChanId) (d : Condition) : (stopChannel c d s).settings = s.settings := by
  unfold stopChannel
  repeat' split
  all_goals simp
@[simp] theorem stopChannel_heads (c : ChanId) (d : Condition) : (stopChannel c d s).heads = s.heads := by
  unfold stopChannel
  repeat' split
  all_goals simp
@[simp] theorem stopChannel_mlu (c : ChanId) (d : Condition) : (stopChannel c d s).mlu = s.mlu := by
  unfold stopChannel
  repeat' split
  all_goals simp
@[simp] theorem stopChannel_epu (c : ChanId) (d : Condition) : (stopChannel c d s).epu = s.epu := by
  unfold stopChannel
  repeat' split
  all_goals simp
@[simp] theorem stopChannel_rsq (c : ChanId) (d : Condition) : (stopChannel c d s).rsq = s.rsq := by
  unfold stopChannel
  repeat' split
  all_goals simp
@[simp] theorem stopChannel_dpu (c : ChanId) (d : Condition) : (stopChannel c d s).dpu = s.dpu := by
  unfold stopChannel
  repeat' split
  all_goals simp
@[simp] theorem stopChannel_arb (c : ChanId) (d : Condition) : (stopChannel c d s).arb = s.arb := by
  unfold stopChannel
  repeat' split
  all_goals simp
@[simp] theorem stopChannel_sent (c : ChanId) (d : Condition) : (stopChannel c d s).sent = s.sent := by
  unfold stopChannel
  repeat' split
  all_goals simp
@[simp] theorem stopChannel_pending (c : ChanId) (d : Condition) : (stopChannel c d s).pending = s.pending := by
  unfold stopChannel
  repeat' split
  all_goals simp

/-- `stopChannel` changes no more than channels. -/
theorem stopChannel_eq (c : ChanId) (d : Condition) : stopChannel c d s =
    { s with channels := (stopChannel c d s).channels } := by
  apply State.eq_of
  all_goals simp

/-! ## `stopWithNotice` -/

@[simp] theorem stopWithNotice_part (c : ChanId) (d : Condition) : (stopWithNotice c d s).part = s.part := by
  unfold stopWithNotice
  repeat' split
  all_goals simp
@[simp] theorem stopWithNotice_clock (c : ChanId) (d : Condition) : (stopWithNotice c d s).clock = s.clock := by
  unfold stopWithNotice
  repeat' split
  all_goals simp
@[simp] theorem stopWithNotice_pool (c : ChanId) (d : Condition) : (stopWithNotice c d s).pool = s.pool := by
  unfold stopWithNotice
  repeat' split
  all_goals simp
@[simp] theorem stopWithNotice_journal (c : ChanId) (d : Condition) : (stopWithNotice c d s).journal = s.journal := by
  unfold stopWithNotice
  repeat' split
  all_goals simp
@[simp] theorem stopWithNotice_accounts (c : ChanId) (d : Condition) : (stopWithNotice c d s).accounts = s.accounts := by
  unfold stopWithNotice
  repeat' split
  all_goals simp
@[simp] theorem stopWithNotice_volumes (c : ChanId) (d : Condition) : (stopWithNotice c d s).volumes = s.volumes := by
  unfold stopWithNotice
  repeat' split
  all_goals simp
@[simp] theorem stopWithNotice_settings (c : ChanId) (d : Condition) : (stopWithNotice c d s).settings = s.settings := by
  unfold stopWithNotice
  repeat' split
  all_goals simp
@[simp] theorem stopWithNotice_heads (c : ChanId) (d : Condition) : (stopWithNotice c d s).heads = s.heads := by
  unfold stopWithNotice
  repeat' split
  all_goals simp
@[simp] theorem stopWithNotice_epu (c : ChanId) (d : Condition) : (stopWithNotice c d s).epu = s.epu := by
  unfold stopWithNotice
  repeat' split
  all_goals simp
@[simp] theorem stopWithNotice_rsq (c : ChanId) (d : Condition) : (stopWithNotice c d s).rsq = s.rsq := by
  unfold stopWithNotice
  repeat' split
  all_goals simp
@[simp] theorem stopWithNotice_dpu (c : ChanId) (d : Condition) : (stopWithNotice c d s).dpu = s.dpu := by
  unfold stopWithNotice
  repeat' split
  all_goals simp
@[simp] theorem stopWithNotice_arb (c : ChanId) (d : Condition) : (stopWithNotice c d s).arb = s.arb := by
  unfold stopWithNotice
  repeat' split
  all_goals simp
@[simp] theorem stopWithNotice_sent (c : ChanId) (d : Condition) : (stopWithNotice c d s).sent = s.sent := by
  unfold stopWithNotice
  repeat' split
  all_goals simp
@[simp] theorem stopWithNotice_pending (c : ChanId) (d : Condition) : (stopWithNotice c d s).pending = s.pending := by
  unfold stopWithNotice
  repeat' split
  all_goals simp

/-- `stopWithNotice` changes no more than channels, mlu. -/
theorem stopWithNotice_eq (c : ChanId) (d : Condition) : stopWithNotice c d s =
    { s with mlu := (stopWithNotice c d s).mlu, channels := (stopWithNotice c d s).channels } := by
  apply State.eq_of
  all_goals simp

/-! ## `stopJournalLost` -/

@[simp] theorem stopJournalLost_part (c : ChanId) : (stopJournalLost c s).part = s.part := by
  unfold stopJournalLost
  repeat' split
  all_goals simp
@[simp] theorem stopJournalLost_clock (c : ChanId) : (stopJournalLost c s).clock = s.clock := by
  unfold stopJournalLost
  repeat' split
  all_goals simp
@[simp] theorem stopJournalLost_pool (c : ChanId) : (stopJournalLost c s).pool = s.pool := by
  unfold stopJournalLost
  repeat' split
  all_goals simp
@[simp] theorem stopJournalLost_journal (c : ChanId) : (stopJournalLost c s).journal = s.journal := by
  unfold stopJournalLost
  repeat' split
  all_goals simp
@[simp] theorem stopJournalLost_accounts (c : ChanId) : (stopJournalLost c s).accounts = s.accounts := by
  unfold stopJournalLost
  repeat' split
  all_goals simp
@[simp] theorem stopJournalLost_volumes (c : ChanId) : (stopJournalLost c s).volumes = s.volumes := by
  unfold stopJournalLost
  repeat' split
  all_goals simp
@[simp] theorem stopJournalLost_settings (c : ChanId) : (stopJournalLost c s).settings = s.settings := by
  unfold stopJournalLost
  repeat' split
  all_goals simp
@[simp] theorem stopJournalLost_heads (c : ChanId) : (stopJournalLost c s).heads = s.heads := by
  unfold stopJournalLost
  repeat' split
  all_goals simp
@[simp] theorem stopJournalLost_epu (c : ChanId) : (stopJournalLost c s).epu = s.epu := by
  unfold stopJournalLost
  repeat' split
  all_goals simp
@[simp] theorem stopJournalLost_rsq (c : ChanId) : (stopJournalLost c s).rsq = s.rsq := by
  unfold stopJournalLost
  repeat' split
  all_goals simp
@[simp] theorem stopJournalLost_dpu (c : ChanId) : (stopJournalLost c s).dpu = s.dpu := by
  unfold stopJournalLost
  repeat' split
  all_goals simp
@[simp] theorem stopJournalLost_arb (c : ChanId) : (stopJournalLost c s).arb = s.arb := by
  unfold stopJournalLost
  repeat' split
  all_goals simp
@[simp] theorem stopJournalLost_sent (c : ChanId) : (stopJournalLost c s).sent = s.sent := by
  unfold stopJournalLost
  repeat' split
  all_goals simp
@[simp] theorem stopJournalLost_pending (c : ChanId) : (stopJournalLost c s).pending = s.pending := by
  unfold stopJournalLost
  repeat' split
  all_goals simp

/-- `stopJournalLost` changes no more than channels, mlu. -/
theorem stopJournalLost_eq (c : ChanId) : stopJournalLost c s =
    { s with mlu := (stopJournalLost c s).mlu, channels := (stopJournalLost c s).channels } := by
  apply State.eq_of
  all_goals simp

/-! ## `stopIfPendingFaulted` -/

@[simp] theorem stopIfPendingFaulted_part (c : ChanId) : (stopIfPendingFaulted c s).part = s.part := by
  simp only [stopIfPendingFaulted]
  repeat' split
  all_goals simp
@[simp] theorem stopIfPendingFaulted_clock (c : ChanId) : (stopIfPendingFaulted c s).clock = s.clock := by
  simp only [stopIfPendingFaulted]
  repeat' split
  all_goals simp
@[simp] theorem stopIfPendingFaulted_pool (c : ChanId) : (stopIfPendingFaulted c s).pool = s.pool := by
  simp only [stopIfPendingFaulted]
  repeat' split
  all_goals simp
@[simp] theorem stopIfPendingFaulted_journal (c : ChanId) : (stopIfPendingFaulted c s).journal = s.journal := by
  simp only [stopIfPendingFaulted]
  repeat' split
  all_goals simp
@[simp] theorem stopIfPendingFaulted_accounts (c : ChanId) : (stopIfPendingFaulted c s).accounts = s.accounts := by
  simp only [stopIfPendingFaulted]
  repeat' split
  all_goals simp
@[simp] theorem stopIfPendingFaulted_volumes (c : ChanId) : (stopIfPendingFaulted c s).volumes = s.volumes := by
  simp only [stopIfPendingFaulted]
  repeat' split
  all_goals simp
@[simp] theorem stopIfPendingFaulted_settings (c : ChanId) : (stopIfPendingFaulted c s).settings = s.settings := by
  simp only [stopIfPendingFaulted]
  repeat' split
  all_goals simp
@[simp] theorem stopIfPendingFaulted_heads (c : ChanId) : (stopIfPendingFaulted c s).heads = s.heads := by
  simp only [stopIfPendingFaulted]
  repeat' split
  all_goals simp
@[simp] theorem stopIfPendingFaulted_epu (c : ChanId) : (stopIfPendingFaulted c s).epu = s.epu := by
  simp only [stopIfPendingFaulted]
  repeat' split
  all_goals simp
@[simp] theorem stopIfPendingFaulted_rsq (c : ChanId) : (stopIfPendingFaulted c s).rsq = s.rsq := by
  simp only [stopIfPendingFaulted]
  repeat' split
  all_goals simp
@[simp] theorem stopIfPendingFaulted_dpu (c : ChanId) : (stopIfPendingFaulted c s).dpu = s.dpu := by
  simp only [stopIfPendingFaulted]
  repeat' split
  all_goals simp
@[simp] theorem stopIfPendingFaulted_arb (c : ChanId) : (stopIfPendingFaulted c s).arb = s.arb := by
  simp only [stopIfPendingFaulted]
  repeat' split
  all_goals simp
@[simp] theorem stopIfPendingFaulted_sent (c : ChanId) : (stopIfPendingFaulted c s).sent = s.sent := by
  simp only [stopIfPendingFaulted]
  repeat' split
  all_goals simp
@[simp] theorem stopIfPendingFaulted_pending (c : ChanId) : (stopIfPendingFaulted c s).pending = s.pending := by
  simp only [stopIfPendingFaulted]
  repeat' split
  all_goals simp

/-- `stopIfPendingFaulted` changes no more than channels, mlu. -/
theorem stopIfPendingFaulted_eq (c : ChanId) : stopIfPendingFaulted c s =
    { s with mlu := (stopIfPendingFaulted c s).mlu, channels := (stopIfPendingFaulted c s).channels } := by
  apply State.eq_of
  all_goals simp

/-! ## `overrunChannel` -/

@[simp] theorem overrunChannel_part (q : Nat) (c : ChanId) : (overrunChannel q s c).part = s.part := by
  unfold overrunChannel
  repeat' split
  all_goals simp
@[simp] theorem overrunChannel_clock (q : Nat) (c : ChanId) : (overrunChannel q s c).clock = s.clock := by
  unfold overrunChannel
  repeat' split
  all_goals simp
@[simp] theorem overrunChannel_pool (q : Nat) (c : ChanId) : (overrunChannel q s c).pool = s.pool := by
  unfold overrunChannel
  repeat' split
  all_goals simp
@[simp] theorem overrunChannel_journal (q : Nat) (c : ChanId) : (overrunChannel q s c).journal = s.journal := by
  unfold overrunChannel
  repeat' split
  all_goals simp
@[simp] theorem overrunChannel_accounts (q : Nat) (c : ChanId) : (overrunChannel q s c).accounts = s.accounts := by
  unfold overrunChannel
  repeat' split
  all_goals simp
@[simp] theorem overrunChannel_settings (q : Nat) (c : ChanId) : (overrunChannel q s c).settings = s.settings := by
  unfold overrunChannel
  repeat' split
  all_goals simp
@[simp] theorem overrunChannel_heads (q : Nat) (c : ChanId) : (overrunChannel q s c).heads = s.heads := by
  unfold overrunChannel
  repeat' split
  all_goals simp
@[simp] theorem overrunChannel_epu (q : Nat) (c : ChanId) : (overrunChannel q s c).epu = s.epu := by
  unfold overrunChannel
  repeat' split
  all_goals simp
@[simp] theorem overrunChannel_rsq (q : Nat) (c : ChanId) : (overrunChannel q s c).rsq = s.rsq := by
  unfold overrunChannel
  repeat' split
  all_goals simp
@[simp] theorem overrunChannel_dpu (q : Nat) (c : ChanId) : (overrunChannel q s c).dpu = s.dpu := by
  unfold overrunChannel
  repeat' split
  all_goals simp
@[simp] theorem overrunChannel_arb (q : Nat) (c : ChanId) : (overrunChannel q s c).arb = s.arb := by
  unfold overrunChannel
  repeat' split
  all_goals simp
@[simp] theorem overrunChannel_sent (q : Nat) (c : ChanId) : (overrunChannel q s c).sent = s.sent := by
  unfold overrunChannel
  repeat' split
  all_goals simp
@[simp] theorem overrunChannel_pending (q : Nat) (c : ChanId) : (overrunChannel q s c).pending = s.pending := by
  unfold overrunChannel
  repeat' split
  all_goals simp

/-- `overrunChannel` changes no more than volumes, channels, mlu. -/
theorem overrunChannel_eq (q : Nat) (c : ChanId) : overrunChannel q s c =
    { s with volumes := (overrunChannel q s c).volumes, mlu := (overrunChannel q s c).mlu, channels := (overrunChannel q s c).channels } := by
  apply State.eq_of
  all_goals simp

/-! ## `renumberChannel` -/

@[simp] theorem renumberChannel_part (c : ChanId) : (renumberChannel s c).part = s.part := by
  unfold renumberChannel
  repeat' split
  all_goals simp
@[simp] theorem renumberChannel_clock (c : ChanId) : (renumberChannel s c).clock = s.clock := by
  unfold renumberChannel
  repeat' split
  all_goals simp
@[simp] theorem renumberChannel_pool (c : ChanId) : (renumberChannel s c).pool = s.pool := by
  unfold renumberChannel
  repeat' split
  all_goals simp
@[simp] theorem renumberChannel_journal (c : ChanId) : (renumberChannel s c).journal = s.journal := by
  unfold renumberChannel
  repeat' split
  all_goals simp
@[simp] theorem renumberChannel_accounts (c : ChanId) : (renumberChannel s c).accounts = s.accounts := by
  unfold renumberChannel
  repeat' split
  all_goals simp
@[simp] theorem renumberChannel_volumes (c : ChanId) : (renumberChannel s c).volumes = s.volumes := by
  unfold renumberChannel
  repeat' split
  all_goals simp
@[simp] theorem renumberChannel_settings (c : ChanId) : (renumberChannel s c).settings = s.settings := by
  unfold renumberChannel
  repeat' split
  all_goals simp
@[simp] theorem renumberChannel_heads (c : ChanId) : (renumberChannel s c).heads = s.heads := by
  unfold renumberChannel
  repeat' split
  all_goals simp
@[simp] theorem renumberChannel_epu (c : ChanId) : (renumberChannel s c).epu = s.epu := by
  unfold renumberChannel
  repeat' split
  all_goals simp
@[simp] theorem renumberChannel_rsq (c : ChanId) : (renumberChannel s c).rsq = s.rsq := by
  unfold renumberChannel
  repeat' split
  all_goals simp
@[simp] theorem renumberChannel_dpu (c : ChanId) : (renumberChannel s c).dpu = s.dpu := by
  unfold renumberChannel
  repeat' split
  all_goals simp
@[simp] theorem renumberChannel_arb (c : ChanId) : (renumberChannel s c).arb = s.arb := by
  unfold renumberChannel
  repeat' split
  all_goals simp
@[simp] theorem renumberChannel_sent (c : ChanId) : (renumberChannel s c).sent = s.sent := by
  unfold renumberChannel
  repeat' split
  all_goals simp
@[simp] theorem renumberChannel_pending (c : ChanId) : (renumberChannel s c).pending = s.pending := by
  unfold renumberChannel
  repeat' split
  all_goals simp

/-- `renumberChannel` changes no more than channels, mlu. -/
theorem renumberChannel_eq (c : ChanId) : renumberChannel s c =
    { s with mlu := (renumberChannel s c).mlu, channels := (renumberChannel s c).channels } := by
  apply State.eq_of
  all_goals simp

/-! ## `renumber` -/

@[simp] theorem renumber_part : (renumber s).part = s.part := by
  have : ∀ (l : List ChanId) (s : State), (l.foldl renumberChannel s).part = s.part := by
    intro l
    induction l with
    | nil => intro s; rfl
    | cons a l ih => intro s; rw [List.foldl_cons, ih]; simp
  simp [renumber, this]
@[simp] theorem renumber_clock : (renumber s).clock = s.clock := by
  have : ∀ (l : List ChanId) (s : State), (l.foldl renumberChannel s).clock = s.clock := by
    intro l
    induction l with
    | nil => intro s; rfl
    | cons a l ih => intro s; rw [List.foldl_cons, ih]; simp
  simp [renumber, this]
@[simp] theorem renumber_pool : (renumber s).pool = s.pool := by
  have : ∀ (l : List ChanId) (s : State), (l.foldl renumberChannel s).pool = s.pool := by
    intro l
    induction l with
    | nil => intro s; rfl
    | cons a l ih => intro s; rw [List.foldl_cons, ih]; simp
  simp [renumber, this]
@[simp] theorem renumber_accounts : (renumber s).accounts = s.accounts := by
  have : ∀ (l : List ChanId) (s : State), (l.foldl renumberChannel s).accounts = s.accounts := by
    intro l
    induction l with
    | nil => intro s; rfl
    | cons a l ih => intro s; rw [List.foldl_cons, ih]; simp
  simp [renumber, this]
@[simp] theorem renumber_settings : (renumber s).settings = s.settings := by
  have : ∀ (l : List ChanId) (s : State), (l.foldl renumberChannel s).settings = s.settings := by
    intro l
    induction l with
    | nil => intro s; rfl
    | cons a l ih => intro s; rw [List.foldl_cons, ih]; simp
  simp [renumber, this]
@[simp] theorem renumber_heads : (renumber s).heads = s.heads := by
  have : ∀ (l : List ChanId) (s : State), (l.foldl renumberChannel s).heads = s.heads := by
    intro l
    induction l with
    | nil => intro s; rfl
    | cons a l ih => intro s; rw [List.foldl_cons, ih]; simp
  simp [renumber, this]
@[simp] theorem renumber_epu : (renumber s).epu = s.epu := by
  have : ∀ (l : List ChanId) (s : State), (l.foldl renumberChannel s).epu = s.epu := by
    intro l
    induction l with
    | nil => intro s; rfl
    | cons a l ih => intro s; rw [List.foldl_cons, ih]; simp
  simp [renumber, this]
@[simp] theorem renumber_rsq : (renumber s).rsq = s.rsq := by
  have : ∀ (l : List ChanId) (s : State), (l.foldl renumberChannel s).rsq = s.rsq := by
    intro l
    induction l with
    | nil => intro s; rfl
    | cons a l ih => intro s; rw [List.foldl_cons, ih]; simp
  simp [renumber, this]
@[simp] theorem renumber_dpu : (renumber s).dpu = s.dpu := by
  have : ∀ (l : List ChanId) (s : State), (l.foldl renumberChannel s).dpu = s.dpu := by
    intro l
    induction l with
    | nil => intro s; rfl
    | cons a l ih => intro s; rw [List.foldl_cons, ih]; simp
  simp [renumber, this]
@[simp] theorem renumber_arb : (renumber s).arb = s.arb := by
  have : ∀ (l : List ChanId) (s : State), (l.foldl renumberChannel s).arb = s.arb := by
    intro l
    induction l with
    | nil => intro s; rfl
    | cons a l ih => intro s; rw [List.foldl_cons, ih]; simp
  simp [renumber, this]
@[simp] theorem renumber_sent : (renumber s).sent = s.sent := by
  have : ∀ (l : List ChanId) (s : State), (l.foldl renumberChannel s).sent = s.sent := by
    intro l
    induction l with
    | nil => intro s; rfl
    | cons a l ih => intro s; rw [List.foldl_cons, ih]; simp
  simp [renumber, this]
@[simp] theorem renumber_pending : (renumber s).pending = s.pending := by
  have : ∀ (l : List ChanId) (s : State), (l.foldl renumberChannel s).pending = s.pending := by
    intro l
    induction l with
    | nil => intro s; rfl
    | cons a l ih => intro s; rw [List.foldl_cons, ih]; simp
  simp [renumber, this]

/-- `renumber` changes no more than journal, volumes, channels, mlu. -/
theorem renumber_eq : renumber s =
    { s with journal := (renumber s).journal, volumes := (renumber s).volumes, mlu := (renumber s).mlu, channels := (renumber s).channels } := by
  apply State.eq_of
  all_goals simp

/-! ## `makeRoom` -/

@[simp] theorem makeRoom_part : (makeRoom s).part = s.part := by
  have : ∀ (l : List ChanId) (q : Nat) (s : State), (l.foldl (overrunChannel q) s).part = s.part := by
    intro l q
    induction l with
    | nil => intro s; rfl
    | cons a l ih => intro s; rw [List.foldl_cons, ih]; simp
  unfold makeRoom
  split <;> simp [this]
@[simp] theorem makeRoom_clock : (makeRoom s).clock = s.clock := by
  have : ∀ (l : List ChanId) (q : Nat) (s : State), (l.foldl (overrunChannel q) s).clock = s.clock := by
    intro l q
    induction l with
    | nil => intro s; rfl
    | cons a l ih => intro s; rw [List.foldl_cons, ih]; simp
  unfold makeRoom
  split <;> simp [this]
@[simp] theorem makeRoom_pool : (makeRoom s).pool = s.pool := by
  have : ∀ (l : List ChanId) (q : Nat) (s : State), (l.foldl (overrunChannel q) s).pool = s.pool := by
    intro l q
    induction l with
    | nil => intro s; rfl
    | cons a l ih => intro s; rw [List.foldl_cons, ih]; simp
  unfold makeRoom
  split <;> simp [this]
@[simp] theorem makeRoom_accounts : (makeRoom s).accounts = s.accounts := by
  have : ∀ (l : List ChanId) (q : Nat) (s : State), (l.foldl (overrunChannel q) s).accounts = s.accounts := by
    intro l q
    induction l with
    | nil => intro s; rfl
    | cons a l ih => intro s; rw [List.foldl_cons, ih]; simp
  unfold makeRoom
  split <;> simp [this]
@[simp] theorem makeRoom_settings : (makeRoom s).settings = s.settings := by
  have : ∀ (l : List ChanId) (q : Nat) (s : State), (l.foldl (overrunChannel q) s).settings = s.settings := by
    intro l q
    induction l with
    | nil => intro s; rfl
    | cons a l ih => intro s; rw [List.foldl_cons, ih]; simp
  unfold makeRoom
  split <;> simp [this]
@[simp] theorem makeRoom_heads : (makeRoom s).heads = s.heads := by
  have : ∀ (l : List ChanId) (q : Nat) (s : State), (l.foldl (overrunChannel q) s).heads = s.heads := by
    intro l q
    induction l with
    | nil => intro s; rfl
    | cons a l ih => intro s; rw [List.foldl_cons, ih]; simp
  unfold makeRoom
  split <;> simp [this]
@[simp] theorem makeRoom_epu : (makeRoom s).epu = s.epu := by
  have : ∀ (l : List ChanId) (q : Nat) (s : State), (l.foldl (overrunChannel q) s).epu = s.epu := by
    intro l q
    induction l with
    | nil => intro s; rfl
    | cons a l ih => intro s; rw [List.foldl_cons, ih]; simp
  unfold makeRoom
  split <;> simp [this]
@[simp] theorem makeRoom_rsq : (makeRoom s).rsq = s.rsq := by
  have : ∀ (l : List ChanId) (q : Nat) (s : State), (l.foldl (overrunChannel q) s).rsq = s.rsq := by
    intro l q
    induction l with
    | nil => intro s; rfl
    | cons a l ih => intro s; rw [List.foldl_cons, ih]; simp
  unfold makeRoom
  split <;> simp [this]
@[simp] theorem makeRoom_dpu : (makeRoom s).dpu = s.dpu := by
  have : ∀ (l : List ChanId) (q : Nat) (s : State), (l.foldl (overrunChannel q) s).dpu = s.dpu := by
    intro l q
    induction l with
    | nil => intro s; rfl
    | cons a l ih => intro s; rw [List.foldl_cons, ih]; simp
  unfold makeRoom
  split <;> simp [this]
@[simp] theorem makeRoom_arb : (makeRoom s).arb = s.arb := by
  have : ∀ (l : List ChanId) (q : Nat) (s : State), (l.foldl (overrunChannel q) s).arb = s.arb := by
    intro l q
    induction l with
    | nil => intro s; rfl
    | cons a l ih => intro s; rw [List.foldl_cons, ih]; simp
  unfold makeRoom
  split <;> simp [this]
@[simp] theorem makeRoom_sent : (makeRoom s).sent = s.sent := by
  have : ∀ (l : List ChanId) (q : Nat) (s : State), (l.foldl (overrunChannel q) s).sent = s.sent := by
    intro l q
    induction l with
    | nil => intro s; rfl
    | cons a l ih => intro s; rw [List.foldl_cons, ih]; simp
  unfold makeRoom
  split <;> simp [this]
@[simp] theorem makeRoom_pending : (makeRoom s).pending = s.pending := by
  have : ∀ (l : List ChanId) (q : Nat) (s : State), (l.foldl (overrunChannel q) s).pending = s.pending := by
    intro l q
    induction l with
    | nil => intro s; rfl
    | cons a l ih => intro s; rw [List.foldl_cons, ih]; simp
  unfold makeRoom
  split <;> simp [this]

/-- `makeRoom` changes no more than journal, volumes, channels, mlu. -/
theorem makeRoom_eq : makeRoom s =
    { s with journal := (makeRoom s).journal, volumes := (makeRoom s).volumes, mlu := (makeRoom s).mlu, channels := (makeRoom s).channels } := by
  apply State.eq_of
  all_goals simp

/-! ## `storeEntry` -/

@[simp] theorem storeEntry_part (e : JournalEntry) : (storeEntry e s).part = s.part := by
  simp [storeEntry]
@[simp] theorem storeEntry_clock (e : JournalEntry) : (storeEntry e s).clock = s.clock := by
  simp [storeEntry]
@[simp] theorem storeEntry_pool (e : JournalEntry) : (storeEntry e s).pool = s.pool := by
  simp [storeEntry]
@[simp] theorem storeEntry_accounts (e : JournalEntry) : (storeEntry e s).accounts = s.accounts := by
  simp [storeEntry]
@[simp] theorem storeEntry_volumes (e : JournalEntry) : (storeEntry e s).volumes = s.volumes := by
  simp [storeEntry]
@[simp] theorem storeEntry_settings (e : JournalEntry) : (storeEntry e s).settings = s.settings := by
  simp [storeEntry]
@[simp] theorem storeEntry_heads (e : JournalEntry) : (storeEntry e s).heads = s.heads := by
  simp [storeEntry]
@[simp] theorem storeEntry_mlu (e : JournalEntry) : (storeEntry e s).mlu = s.mlu := by
  simp [storeEntry]
@[simp] theorem storeEntry_epu (e : JournalEntry) : (storeEntry e s).epu = s.epu := by
  simp [storeEntry]
@[simp] theorem storeEntry_rsq (e : JournalEntry) : (storeEntry e s).rsq = s.rsq := by
  simp [storeEntry]
@[simp] theorem storeEntry_channels (e : JournalEntry) : (storeEntry e s).channels = s.channels := by
  simp [storeEntry]
@[simp] theorem storeEntry_dpu (e : JournalEntry) : (storeEntry e s).dpu = s.dpu := by
  simp [storeEntry]
@[simp] theorem storeEntry_arb (e : JournalEntry) : (storeEntry e s).arb = s.arb := by
  simp [storeEntry]
@[simp] theorem storeEntry_sent (e : JournalEntry) : (storeEntry e s).sent = s.sent := by
  simp [storeEntry]
@[simp] theorem storeEntry_pending (e : JournalEntry) : (storeEntry e s).pending = s.pending := by
  simp [storeEntry]

/-- `storeEntry` changes no more than journal. -/
theorem storeEntry_eq (e : JournalEntry) : storeEntry e s =
    { s with journal := (storeEntry e s).journal } := by
  apply State.eq_of
  all_goals simp

/-! ## `appendEntry` -/

@[simp] theorem appendEntry_part (e : JournalEntry) : (appendEntry s e).part = s.part := by
  unfold appendEntry
  repeat' split
  all_goals simp
@[simp] theorem appendEntry_clock (e : JournalEntry) : (appendEntry s e).clock = s.clock := by
  unfold appendEntry
  repeat' split
  all_goals simp
@[simp] theorem appendEntry_pool (e : JournalEntry) : (appendEntry s e).pool = s.pool := by
  unfold appendEntry
  repeat' split
  all_goals simp
@[simp] theorem appendEntry_accounts (e : JournalEntry) : (appendEntry s e).accounts = s.accounts := by
  unfold appendEntry
  repeat' split
  all_goals simp
@[simp] theorem appendEntry_settings (e : JournalEntry) : (appendEntry s e).settings = s.settings := by
  unfold appendEntry
  repeat' split
  all_goals simp
@[simp] theorem appendEntry_heads (e : JournalEntry) : (appendEntry s e).heads = s.heads := by
  unfold appendEntry
  repeat' split
  all_goals simp
@[simp] theorem appendEntry_epu (e : JournalEntry) : (appendEntry s e).epu = s.epu := by
  unfold appendEntry
  repeat' split
  all_goals simp
@[simp] theorem appendEntry_rsq (e : JournalEntry) : (appendEntry s e).rsq = s.rsq := by
  unfold appendEntry
  repeat' split
  all_goals simp
@[simp] theorem appendEntry_dpu (e : JournalEntry) : (appendEntry s e).dpu = s.dpu := by
  unfold appendEntry
  repeat' split
  all_goals simp
@[simp] theorem appendEntry_arb (e : JournalEntry) : (appendEntry s e).arb = s.arb := by
  unfold appendEntry
  repeat' split
  all_goals simp
@[simp] theorem appendEntry_sent (e : JournalEntry) : (appendEntry s e).sent = s.sent := by
  unfold appendEntry
  repeat' split
  all_goals simp
@[simp] theorem appendEntry_pending (e : JournalEntry) : (appendEntry s e).pending = s.pending := by
  unfold appendEntry
  repeat' split
  all_goals simp

/-- `appendEntry` changes no more than journal, volumes, channels, mlu. -/
theorem appendEntry_eq (e : JournalEntry) : appendEntry s e =
    { s with journal := (appendEntry s e).journal, volumes := (appendEntry s e).volumes, mlu := (appendEntry s e).mlu, channels := (appendEntry s e).channels } := by
  apply State.eq_of
  all_goals simp

/-! ## `appendChanges` -/

@[simp] theorem appendChanges_part (l : List (Option LifeChange)) : (appendChanges l s).part = s.part := by
  unfold appendChanges
  generalize runsOf l = es
  induction es generalizing s with
  | nil => rfl
  | cons a l ih => rw [List.foldl_cons, ih]; simp
@[simp] theorem appendChanges_clock (l : List (Option LifeChange)) : (appendChanges l s).clock = s.clock := by
  unfold appendChanges
  generalize runsOf l = es
  induction es generalizing s with
  | nil => rfl
  | cons a l ih => rw [List.foldl_cons, ih]; simp
@[simp] theorem appendChanges_pool (l : List (Option LifeChange)) : (appendChanges l s).pool = s.pool := by
  unfold appendChanges
  generalize runsOf l = es
  induction es generalizing s with
  | nil => rfl
  | cons a l ih => rw [List.foldl_cons, ih]; simp
@[simp] theorem appendChanges_accounts (l : List (Option LifeChange)) : (appendChanges l s).accounts = s.accounts := by
  unfold appendChanges
  generalize runsOf l = es
  induction es generalizing s with
  | nil => rfl
  | cons a l ih => rw [List.foldl_cons, ih]; simp
@[simp] theorem appendChanges_settings (l : List (Option LifeChange)) : (appendChanges l s).settings = s.settings := by
  unfold appendChanges
  generalize runsOf l = es
  induction es generalizing s with
  | nil => rfl
  | cons a l ih => rw [List.foldl_cons, ih]; simp
@[simp] theorem appendChanges_heads (l : List (Option LifeChange)) : (appendChanges l s).heads = s.heads := by
  unfold appendChanges
  generalize runsOf l = es
  induction es generalizing s with
  | nil => rfl
  | cons a l ih => rw [List.foldl_cons, ih]; simp
@[simp] theorem appendChanges_epu (l : List (Option LifeChange)) : (appendChanges l s).epu = s.epu := by
  unfold appendChanges
  generalize runsOf l = es
  induction es generalizing s with
  | nil => rfl
  | cons a l ih => rw [List.foldl_cons, ih]; simp
@[simp] theorem appendChanges_rsq (l : List (Option LifeChange)) : (appendChanges l s).rsq = s.rsq := by
  unfold appendChanges
  generalize runsOf l = es
  induction es generalizing s with
  | nil => rfl
  | cons a l ih => rw [List.foldl_cons, ih]; simp
@[simp] theorem appendChanges_dpu (l : List (Option LifeChange)) : (appendChanges l s).dpu = s.dpu := by
  unfold appendChanges
  generalize runsOf l = es
  induction es generalizing s with
  | nil => rfl
  | cons a l ih => rw [List.foldl_cons, ih]; simp
@[simp] theorem appendChanges_arb (l : List (Option LifeChange)) : (appendChanges l s).arb = s.arb := by
  unfold appendChanges
  generalize runsOf l = es
  induction es generalizing s with
  | nil => rfl
  | cons a l ih => rw [List.foldl_cons, ih]; simp
@[simp] theorem appendChanges_sent (l : List (Option LifeChange)) : (appendChanges l s).sent = s.sent := by
  unfold appendChanges
  generalize runsOf l = es
  induction es generalizing s with
  | nil => rfl
  | cons a l ih => rw [List.foldl_cons, ih]; simp
@[simp] theorem appendChanges_pending (l : List (Option LifeChange)) : (appendChanges l s).pending = s.pending := by
  unfold appendChanges
  generalize runsOf l = es
  induction es generalizing s with
  | nil => rfl
  | cons a l ih => rw [List.foldl_cons, ih]; simp

/-- `appendChanges` changes no more than journal, volumes, channels, mlu. -/
theorem appendChanges_eq (l : List (Option LifeChange)) : appendChanges l s =
    { s with journal := (appendChanges l s).journal, volumes := (appendChanges l s).volumes, mlu := (appendChanges l s).mlu, channels := (appendChanges l s).channels } := by
  apply State.eq_of
  all_goals simp

/-! ## `expireSnapshot` -/

@[simp] theorem expireSnapshot_part (v e : Nat) : (expireSnapshot v e s).part = s.part := by
  simp [expireSnapshot]
@[simp] theorem expireSnapshot_clock (v e : Nat) : (expireSnapshot v e s).clock = s.clock := by
  simp [expireSnapshot]
@[simp] theorem expireSnapshot_pool (v e : Nat) : (expireSnapshot v e s).pool = s.pool := by
  simp [expireSnapshot]
@[simp] theorem expireSnapshot_journal (v e : Nat) : (expireSnapshot v e s).journal = s.journal := by
  simp [expireSnapshot]
@[simp] theorem expireSnapshot_accounts (v e : Nat) : (expireSnapshot v e s).accounts = s.accounts := by
  simp [expireSnapshot]
@[simp] theorem expireSnapshot_settings (v e : Nat) : (expireSnapshot v e s).settings = s.settings := by
  simp [expireSnapshot]
@[simp] theorem expireSnapshot_heads (v e : Nat) : (expireSnapshot v e s).heads = s.heads := by
  simp [expireSnapshot]
@[simp] theorem expireSnapshot_mlu (v e : Nat) : (expireSnapshot v e s).mlu = s.mlu := by
  simp [expireSnapshot]
@[simp] theorem expireSnapshot_rsq (v e : Nat) : (expireSnapshot v e s).rsq = s.rsq := by
  simp [expireSnapshot]
@[simp] theorem expireSnapshot_channels (v e : Nat) : (expireSnapshot v e s).channels = s.channels := by
  simp [expireSnapshot]
@[simp] theorem expireSnapshot_dpu (v e : Nat) : (expireSnapshot v e s).dpu = s.dpu := by
  simp [expireSnapshot]
@[simp] theorem expireSnapshot_arb (v e : Nat) : (expireSnapshot v e s).arb = s.arb := by
  simp [expireSnapshot]
@[simp] theorem expireSnapshot_sent (v e : Nat) : (expireSnapshot v e s).sent = s.sent := by
  simp [expireSnapshot]
@[simp] theorem expireSnapshot_pending (v e : Nat) : (expireSnapshot v e s).pending = s.pending := by
  simp [expireSnapshot]

/-- `expireSnapshot` changes no more than volumes, epu. -/
theorem expireSnapshot_eq (v e : Nat) : expireSnapshot v e s =
    { s with volumes := (expireSnapshot v e s).volumes, epu := (expireSnapshot v e s).epu } := by
  apply State.eq_of
  all_goals simp

/-! ## `rotate` -/

@[simp] theorem rotate_part (v n : Nat) : (rotate v n s).part = s.part := by
  induction n generalizing s with
  | zero => rfl
  | succ n ih =>
    unfold rotate
    repeat' split
    all_goals simp [ih]
@[simp] theorem rotate_clock (v n : Nat) : (rotate v n s).clock = s.clock := by
  induction n generalizing s with
  | zero => rfl
  | succ n ih =>
    unfold rotate
    repeat' split
    all_goals simp [ih]
@[simp] theorem rotate_pool (v n : Nat) : (rotate v n s).pool = s.pool := by
  induction n generalizing s with
  | zero => rfl
  | succ n ih =>
    unfold rotate
    repeat' split
    all_goals simp [ih]
@[simp] theorem rotate_journal (v n : Nat) : (rotate v n s).journal = s.journal := by
  induction n generalizing s with
  | zero => rfl
  | succ n ih =>
    unfold rotate
    repeat' split
    all_goals simp [ih]
@[simp] theorem rotate_accounts (v n : Nat) : (rotate v n s).accounts = s.accounts := by
  induction n generalizing s with
  | zero => rfl
  | succ n ih =>
    unfold rotate
    repeat' split
    all_goals simp [ih]
@[simp] theorem rotate_settings (v n : Nat) : (rotate v n s).settings = s.settings := by
  induction n generalizing s with
  | zero => rfl
  | succ n ih =>
    unfold rotate
    repeat' split
    all_goals simp [ih]
@[simp] theorem rotate_heads (v n : Nat) : (rotate v n s).heads = s.heads := by
  induction n generalizing s with
  | zero => rfl
  | succ n ih =>
    unfold rotate
    repeat' split
    all_goals simp [ih]
@[simp] theorem rotate_mlu (v n : Nat) : (rotate v n s).mlu = s.mlu := by
  induction n generalizing s with
  | zero => rfl
  | succ n ih =>
    unfold rotate
    repeat' split
    all_goals simp [ih]
@[simp] theorem rotate_rsq (v n : Nat) : (rotate v n s).rsq = s.rsq := by
  induction n generalizing s with
  | zero => rfl
  | succ n ih =>
    unfold rotate
    repeat' split
    all_goals simp [ih]
@[simp] theorem rotate_channels (v n : Nat) : (rotate v n s).channels = s.channels := by
  induction n generalizing s with
  | zero => rfl
  | succ n ih =>
    unfold rotate
    repeat' split
    all_goals simp [ih]
@[simp] theorem rotate_dpu (v n : Nat) : (rotate v n s).dpu = s.dpu := by
  induction n generalizing s with
  | zero => rfl
  | succ n ih =>
    unfold rotate
    repeat' split
    all_goals simp [ih]
@[simp] theorem rotate_arb (v n : Nat) : (rotate v n s).arb = s.arb := by
  induction n generalizing s with
  | zero => rfl
  | succ n ih =>
    unfold rotate
    repeat' split
    all_goals simp [ih]
@[simp] theorem rotate_sent (v n : Nat) : (rotate v n s).sent = s.sent := by
  induction n generalizing s with
  | zero => rfl
  | succ n ih =>
    unfold rotate
    repeat' split
    all_goals simp [ih]
@[simp] theorem rotate_pending (v n : Nat) : (rotate v n s).pending = s.pending := by
  induction n generalizing s with
  | zero => rfl
  | succ n ih =>
    unfold rotate
    repeat' split
    all_goals simp [ih]

/-- `rotate` changes no more than volumes, epu. -/
theorem rotate_eq (v n : Nat) : rotate v n s =
    { s with volumes := (rotate v n s).volumes, epu := (rotate v n s).epu } := by
  apply State.eq_of
  all_goals simp

/-! ## `rotationCheck` -/

@[simp] theorem rotationCheck_part (v : Nat) : (rotationCheck v s).part = s.part := by
  unfold rotationCheck
  repeat' split
  all_goals simp
@[simp] theorem rotationCheck_clock (v : Nat) : (rotationCheck v s).clock = s.clock := by
  unfold rotationCheck
  repeat' split
  all_goals simp
@[simp] theorem rotationCheck_pool (v : Nat) : (rotationCheck v s).pool = s.pool := by
  unfold rotationCheck
  repeat' split
  all_goals simp
@[simp] theorem rotationCheck_journal (v : Nat) : (rotationCheck v s).journal = s.journal := by
  unfold rotationCheck
  repeat' split
  all_goals simp
@[simp] theorem rotationCheck_accounts (v : Nat) : (rotationCheck v s).accounts = s.accounts := by
  unfold rotationCheck
  repeat' split
  all_goals simp
@[simp] theorem rotationCheck_settings (v : Nat) : (rotationCheck v s).settings = s.settings := by
  unfold rotationCheck
  repeat' split
  all_goals simp
@[simp] theorem rotationCheck_heads (v : Nat) : (rotationCheck v s).heads = s.heads := by
  unfold rotationCheck
  repeat' split
  all_goals simp
@[simp] theorem rotationCheck_mlu (v : Nat) : (rotationCheck v s).mlu = s.mlu := by
  unfold rotationCheck
  repeat' split
  all_goals simp
@[simp] theorem rotationCheck_rsq (v : Nat) : (rotationCheck v s).rsq = s.rsq := by
  unfold rotationCheck
  repeat' split
  all_goals simp
@[simp] theorem rotationCheck_channels (v : Nat) : (rotationCheck v s).channels = s.channels := by
  unfold rotationCheck
  repeat' split
  all_goals simp
@[simp] theorem rotationCheck_dpu (v : Nat) : (rotationCheck v s).dpu = s.dpu := by
  unfold rotationCheck
  repeat' split
  all_goals simp
@[simp] theorem rotationCheck_arb (v : Nat) : (rotationCheck v s).arb = s.arb := by
  unfold rotationCheck
  repeat' split
  all_goals simp
@[simp] theorem rotationCheck_sent (v : Nat) : (rotationCheck v s).sent = s.sent := by
  unfold rotationCheck
  repeat' split
  all_goals simp
@[simp] theorem rotationCheck_pending (v : Nat) : (rotationCheck v s).pending = s.pending := by
  unfold rotationCheck
  repeat' split
  all_goals simp

/-- `rotationCheck` changes no more than volumes, epu. -/
theorem rotationCheck_eq (v : Nat) : rotationCheck v s =
    { s with volumes := (rotationCheck v s).volumes, epu := (rotationCheck v s).epu } := by
  apply State.eq_of
  all_goals simp

/-! ## `takePin` -/

@[simp] theorem takePin_part (v e : Nat) : (takePin v e s).part = s.part := by
  simp [takePin]
@[simp] theorem takePin_clock (v e : Nat) : (takePin v e s).clock = s.clock := by
  simp [takePin]
@[simp] theorem takePin_pool (v e : Nat) : (takePin v e s).pool = s.pool := by
  simp [takePin]
@[simp] theorem takePin_journal (v e : Nat) : (takePin v e s).journal = s.journal := by
  simp [takePin]
@[simp] theorem takePin_accounts (v e : Nat) : (takePin v e s).accounts = s.accounts := by
  simp [takePin]
@[simp] theorem takePin_settings (v e : Nat) : (takePin v e s).settings = s.settings := by
  simp [takePin]
@[simp] theorem takePin_heads (v e : Nat) : (takePin v e s).heads = s.heads := by
  simp [takePin]
@[simp] theorem takePin_mlu (v e : Nat) : (takePin v e s).mlu = s.mlu := by
  simp [takePin]
@[simp] theorem takePin_epu (v e : Nat) : (takePin v e s).epu = s.epu := by
  simp [takePin]
@[simp] theorem takePin_rsq (v e : Nat) : (takePin v e s).rsq = s.rsq := by
  simp [takePin]
@[simp] theorem takePin_channels (v e : Nat) : (takePin v e s).channels = s.channels := by
  simp [takePin]
@[simp] theorem takePin_dpu (v e : Nat) : (takePin v e s).dpu = s.dpu := by
  simp [takePin]
@[simp] theorem takePin_arb (v e : Nat) : (takePin v e s).arb = s.arb := by
  simp [takePin]
@[simp] theorem takePin_sent (v e : Nat) : (takePin v e s).sent = s.sent := by
  simp [takePin]
@[simp] theorem takePin_pending (v e : Nat) : (takePin v e s).pending = s.pending := by
  simp [takePin]

/-- `takePin` changes no more than volumes. -/
theorem takePin_eq (v e : Nat) : takePin v e s =
    { s with volumes := (takePin v e s).volumes } := by
  apply State.eq_of
  all_goals simp

/-! ## `dropPin` -/

@[simp] theorem dropPin_part (v e : Nat) : (dropPin v e s).part = s.part := by
  unfold dropPin
  repeat' split
  all_goals simp
@[simp] theorem dropPin_clock (v e : Nat) : (dropPin v e s).clock = s.clock := by
  unfold dropPin
  repeat' split
  all_goals simp
@[simp] theorem dropPin_pool (v e : Nat) : (dropPin v e s).pool = s.pool := by
  unfold dropPin
  repeat' split
  all_goals simp
@[simp] theorem dropPin_journal (v e : Nat) : (dropPin v e s).journal = s.journal := by
  unfold dropPin
  repeat' split
  all_goals simp
@[simp] theorem dropPin_accounts (v e : Nat) : (dropPin v e s).accounts = s.accounts := by
  unfold dropPin
  repeat' split
  all_goals simp
@[simp] theorem dropPin_settings (v e : Nat) : (dropPin v e s).settings = s.settings := by
  unfold dropPin
  repeat' split
  all_goals simp
@[simp] theorem dropPin_heads (v e : Nat) : (dropPin v e s).heads = s.heads := by
  unfold dropPin
  repeat' split
  all_goals simp
@[simp] theorem dropPin_mlu (v e : Nat) : (dropPin v e s).mlu = s.mlu := by
  unfold dropPin
  repeat' split
  all_goals simp
@[simp] theorem dropPin_rsq (v e : Nat) : (dropPin v e s).rsq = s.rsq := by
  unfold dropPin
  repeat' split
  all_goals simp
@[simp] theorem dropPin_channels (v e : Nat) : (dropPin v e s).channels = s.channels := by
  unfold dropPin
  repeat' split
  all_goals simp
@[simp] theorem dropPin_dpu (v e : Nat) : (dropPin v e s).dpu = s.dpu := by
  unfold dropPin
  repeat' split
  all_goals simp
@[simp] theorem dropPin_arb (v e : Nat) : (dropPin v e s).arb = s.arb := by
  unfold dropPin
  repeat' split
  all_goals simp
@[simp] theorem dropPin_sent (v e : Nat) : (dropPin v e s).sent = s.sent := by
  unfold dropPin
  repeat' split
  all_goals simp
@[simp] theorem dropPin_pending (v e : Nat) : (dropPin v e s).pending = s.pending := by
  unfold dropPin
  repeat' split
  all_goals simp

/-- `dropPin` changes no more than volumes, epu. -/
theorem dropPin_eq (v e : Nat) : dropPin v e s =
    { s with volumes := (dropPin v e s).volumes, epu := (dropPin v e s).epu } := by
  apply State.eq_of
  all_goals simp

/-! ## `adjustExtent` -/

@[simp] theorem adjustExtent_part (x : Option Nat) (f : Extent → Extent) : (adjustExtent x f s).part = s.part := by
  unfold adjustExtent
  repeat' split
  all_goals simp
@[simp] theorem adjustExtent_clock (x : Option Nat) (f : Extent → Extent) : (adjustExtent x f s).clock = s.clock := by
  unfold adjustExtent
  repeat' split
  all_goals simp
@[simp] theorem adjustExtent_journal (x : Option Nat) (f : Extent → Extent) : (adjustExtent x f s).journal = s.journal := by
  unfold adjustExtent
  repeat' split
  all_goals simp
@[simp] theorem adjustExtent_accounts (x : Option Nat) (f : Extent → Extent) : (adjustExtent x f s).accounts = s.accounts := by
  unfold adjustExtent
  repeat' split
  all_goals simp
@[simp] theorem adjustExtent_volumes (x : Option Nat) (f : Extent → Extent) : (adjustExtent x f s).volumes = s.volumes := by
  unfold adjustExtent
  repeat' split
  all_goals simp
@[simp] theorem adjustExtent_settings (x : Option Nat) (f : Extent → Extent) : (adjustExtent x f s).settings = s.settings := by
  unfold adjustExtent
  repeat' split
  all_goals simp
@[simp] theorem adjustExtent_heads (x : Option Nat) (f : Extent → Extent) : (adjustExtent x f s).heads = s.heads := by
  unfold adjustExtent
  repeat' split
  all_goals simp
@[simp] theorem adjustExtent_mlu (x : Option Nat) (f : Extent → Extent) : (adjustExtent x f s).mlu = s.mlu := by
  unfold adjustExtent
  repeat' split
  all_goals simp
@[simp] theorem adjustExtent_epu (x : Option Nat) (f : Extent → Extent) : (adjustExtent x f s).epu = s.epu := by
  unfold adjustExtent
  repeat' split
  all_goals simp
@[simp] theorem adjustExtent_rsq (x : Option Nat) (f : Extent → Extent) : (adjustExtent x f s).rsq = s.rsq := by
  unfold adjustExtent
  repeat' split
  all_goals simp
@[simp] theorem adjustExtent_channels (x : Option Nat) (f : Extent → Extent) : (adjustExtent x f s).channels = s.channels := by
  unfold adjustExtent
  repeat' split
  all_goals simp
@[simp] theorem adjustExtent_dpu (x : Option Nat) (f : Extent → Extent) : (adjustExtent x f s).dpu = s.dpu := by
  unfold adjustExtent
  repeat' split
  all_goals simp
@[simp] theorem adjustExtent_arb (x : Option Nat) (f : Extent → Extent) : (adjustExtent x f s).arb = s.arb := by
  unfold adjustExtent
  repeat' split
  all_goals simp
@[simp] theorem adjustExtent_sent (x : Option Nat) (f : Extent → Extent) : (adjustExtent x f s).sent = s.sent := by
  unfold adjustExtent
  repeat' split
  all_goals simp
@[simp] theorem adjustExtent_pending (x : Option Nat) (f : Extent → Extent) : (adjustExtent x f s).pending = s.pending := by
  unfold adjustExtent
  repeat' split
  all_goals simp

/-- `adjustExtent` changes no more than pool. -/
theorem adjustExtent_eq (x : Option Nat) (f : Extent → Extent) : adjustExtent x f s =
    { s with pool := (adjustExtent x f s).pool } := by
  apply State.eq_of
  all_goals simp

/-! ## `unlinkChain` -/

@[simp] theorem unlinkChain_part (v : Nat) (p n : Option Nat) : (unlinkChain v p n s).part = s.part := by
  unfold unlinkChain
  repeat' split
  all_goals simp
@[simp] theorem unlinkChain_clock (v : Nat) (p n : Option Nat) : (unlinkChain v p n s).clock = s.clock := by
  unfold unlinkChain
  repeat' split
  all_goals simp
@[simp] theorem unlinkChain_journal (v : Nat) (p n : Option Nat) : (unlinkChain v p n s).journal = s.journal := by
  unfold unlinkChain
  repeat' split
  all_goals simp
@[simp] theorem unlinkChain_accounts (v : Nat) (p n : Option Nat) : (unlinkChain v p n s).accounts = s.accounts := by
  unfold unlinkChain
  repeat' split
  all_goals simp
@[simp] theorem unlinkChain_settings (v : Nat) (p n : Option Nat) : (unlinkChain v p n s).settings = s.settings := by
  unfold unlinkChain
  repeat' split
  all_goals simp
@[simp] theorem unlinkChain_heads (v : Nat) (p n : Option Nat) : (unlinkChain v p n s).heads = s.heads := by
  unfold unlinkChain
  repeat' split
  all_goals simp
@[simp] theorem unlinkChain_mlu (v : Nat) (p n : Option Nat) : (unlinkChain v p n s).mlu = s.mlu := by
  unfold unlinkChain
  repeat' split
  all_goals simp
@[simp] theorem unlinkChain_epu (v : Nat) (p n : Option Nat) : (unlinkChain v p n s).epu = s.epu := by
  unfold unlinkChain
  repeat' split
  all_goals simp
@[simp] theorem unlinkChain_rsq (v : Nat) (p n : Option Nat) : (unlinkChain v p n s).rsq = s.rsq := by
  unfold unlinkChain
  repeat' split
  all_goals simp
@[simp] theorem unlinkChain_channels (v : Nat) (p n : Option Nat) : (unlinkChain v p n s).channels = s.channels := by
  unfold unlinkChain
  repeat' split
  all_goals simp
@[simp] theorem unlinkChain_dpu (v : Nat) (p n : Option Nat) : (unlinkChain v p n s).dpu = s.dpu := by
  unfold unlinkChain
  repeat' split
  all_goals simp
@[simp] theorem unlinkChain_arb (v : Nat) (p n : Option Nat) : (unlinkChain v p n s).arb = s.arb := by
  unfold unlinkChain
  repeat' split
  all_goals simp
@[simp] theorem unlinkChain_sent (v : Nat) (p n : Option Nat) : (unlinkChain v p n s).sent = s.sent := by
  unfold unlinkChain
  repeat' split
  all_goals simp
@[simp] theorem unlinkChain_pending (v : Nat) (p n : Option Nat) : (unlinkChain v p n s).pending = s.pending := by
  unfold unlinkChain
  repeat' split
  all_goals simp

/-- `unlinkChain` changes no more than pool, volumes. -/
theorem unlinkChain_eq (v : Nat) (p n : Option Nat) : unlinkChain v p n s =
    { s with pool := (unlinkChain v p n s).pool, volumes := (unlinkChain v p n s).volumes } := by
  apply State.eq_of
  all_goals simp

/-! ## `appendChain` -/

@[simp] theorem appendChain_part (v x o b h d : Nat) : (appendChain v x o b h d s).part = s.part := by
  unfold appendChain
  repeat' split
  all_goals simp
@[simp] theorem appendChain_clock (v x o b h d : Nat) : (appendChain v x o b h d s).clock = s.clock := by
  unfold appendChain
  repeat' split
  all_goals simp
@[simp] theorem appendChain_journal (v x o b h d : Nat) : (appendChain v x o b h d s).journal = s.journal := by
  unfold appendChain
  repeat' split
  all_goals simp
@[simp] theorem appendChain_accounts (v x o b h d : Nat) : (appendChain v x o b h d s).accounts = s.accounts := by
  unfold appendChain
  repeat' split
  all_goals simp
@[simp] theorem appendChain_settings (v x o b h d : Nat) : (appendChain v x o b h d s).settings = s.settings := by
  unfold appendChain
  repeat' split
  all_goals simp
@[simp] theorem appendChain_heads (v x o b h d : Nat) : (appendChain v x o b h d s).heads = s.heads := by
  unfold appendChain
  repeat' split
  all_goals simp
@[simp] theorem appendChain_mlu (v x o b h d : Nat) : (appendChain v x o b h d s).mlu = s.mlu := by
  unfold appendChain
  repeat' split
  all_goals simp
@[simp] theorem appendChain_epu (v x o b h d : Nat) : (appendChain v x o b h d s).epu = s.epu := by
  unfold appendChain
  repeat' split
  all_goals simp
@[simp] theorem appendChain_rsq (v x o b h d : Nat) : (appendChain v x o b h d s).rsq = s.rsq := by
  unfold appendChain
  repeat' split
  all_goals simp
@[simp] theorem appendChain_channels (v x o b h d : Nat) : (appendChain v x o b h d s).channels = s.channels := by
  unfold appendChain
  repeat' split
  all_goals simp
@[simp] theorem appendChain_dpu (v x o b h d : Nat) : (appendChain v x o b h d s).dpu = s.dpu := by
  unfold appendChain
  repeat' split
  all_goals simp
@[simp] theorem appendChain_arb (v x o b h d : Nat) : (appendChain v x o b h d s).arb = s.arb := by
  unfold appendChain
  repeat' split
  all_goals simp
@[simp] theorem appendChain_sent (v x o b h d : Nat) : (appendChain v x o b h d s).sent = s.sent := by
  unfold appendChain
  repeat' split
  all_goals simp
@[simp] theorem appendChain_pending (v x o b h d : Nat) : (appendChain v x o b h d s).pending = s.pending := by
  unfold appendChain
  repeat' split
  all_goals simp

/-- `appendChain` changes no more than pool, volumes. -/
theorem appendChain_eq (v x o b h d : Nat) : appendChain v x o b h d s =
    { s with pool := (appendChain v x o b h d s).pool, volumes := (appendChain v x o b h d s).volumes } := by
  apply State.eq_of
  all_goals simp

/-! ## `enterPass` -/

@[simp] theorem enterPass_part (c : ChanId) (v e : Nat) : (enterPass c v e s).part = s.part := by
  unfold enterPass
  repeat' split
  all_goals simp
@[simp] theorem enterPass_clock (c : ChanId) (v e : Nat) : (enterPass c v e s).clock = s.clock := by
  unfold enterPass
  repeat' split
  all_goals simp
@[simp] theorem enterPass_pool (c : ChanId) (v e : Nat) : (enterPass c v e s).pool = s.pool := by
  unfold enterPass
  repeat' split
  all_goals simp
@[simp] theorem enterPass_journal (c : ChanId) (v e : Nat) : (enterPass c v e s).journal = s.journal := by
  unfold enterPass
  repeat' split
  all_goals simp
@[simp] theorem enterPass_accounts (c : ChanId) (v e : Nat) : (enterPass c v e s).accounts = s.accounts := by
  unfold enterPass
  repeat' split
  all_goals simp
@[simp] theorem enterPass_settings (c : ChanId) (v e : Nat) : (enterPass c v e s).settings = s.settings := by
  unfold enterPass
  repeat' split
  all_goals simp
@[simp] theorem enterPass_heads (c : ChanId) (v e : Nat) : (enterPass c v e s).heads = s.heads := by
  unfold enterPass
  repeat' split
  all_goals simp
@[simp] theorem enterPass_mlu (c : ChanId) (v e : Nat) : (enterPass c v e s).mlu = s.mlu := by
  unfold enterPass
  repeat' split
  all_goals simp
@[simp] theorem enterPass_rsq (c : ChanId) (v e : Nat) : (enterPass c v e s).rsq = s.rsq := by
  unfold enterPass
  repeat' split
  all_goals simp
@[simp] theorem enterPass_dpu (c : ChanId) (v e : Nat) : (enterPass c v e s).dpu = s.dpu := by
  unfold enterPass
  repeat' split
  all_goals simp
@[simp] theorem enterPass_arb (c : ChanId) (v e : Nat) : (enterPass c v e s).arb = s.arb := by
  unfold enterPass
  repeat' split
  all_goals simp
@[simp] theorem enterPass_sent (c : ChanId) (v e : Nat) : (enterPass c v e s).sent = s.sent := by
  unfold enterPass
  repeat' split
  all_goals simp
@[simp] theorem enterPass_pending (c : ChanId) (v e : Nat) : (enterPass c v e s).pending = s.pending := by
  unfold enterPass
  repeat' split
  all_goals simp

/-- `enterPass` changes no more than volumes, epu, channels. -/
theorem enterPass_eq (c : ChanId) (v e : Nat) : enterPass c v e s =
    { s with volumes := (enterPass c v e s).volumes, epu := (enterPass c v e s).epu, channels := (enterPass c v e s).channels } := by
  apply State.eq_of
  all_goals simp

end Sys2Proof.Machine
end

