-- ==== Sys2Proof/Laws/Turns.lean ====
section
/-! SUPPORT. What a turn does, said once: the grant, the state its work begins from, and what every turn of a management
or head request leaves. -/

namespace Sys2Proof.Machine

/-- A granted turn does its work on the state after the grant, and then the agents present. -/
theorem turn_granted {s : State} {a : Nat} {rr : Bool} (hp : s.part = .running) (hw : winner s = some (a, rr))
    (work : State → State) : turn a true work s = present (work (grantTurn a rr s.fresh)) := by
  simp [turn, hp, hw]

/-- A turn granted to another agent, or of work that is not presented, has no effect. -/
theorem turn_not_granted {s : State} {a : Nat} {isIt : Bool} (h : isIt = false ∨ ¬ Granted s a) (work : State → State) :
    turn a isIt work s = s.fresh := by
  unfold turn Granted at *
  split
  · next hi =>
    split
    · next b rr hw =>
      rw [if_neg]
      rintro rfl
      rcases h with h | h
      · simp [h] at hi
      · exact h ⟨hi.1, by simp [hw]⟩
    · rfl
  · rfl

theorem Granted.winner {s : State} {a : Nat} (h : Granted s a) : ∃ rr, winner s = some (a, rr) := by
  obtain ⟨-, h⟩ := h
  obtain ⟨⟨b, rr⟩, hw, rfl⟩ := Option.map_eq_some_iff.mp h
  exact ⟨rr, hw⟩

theorem turn_of {s : State} {a : Nat} (h : Granted s a) (work : State → State) :
    ∃ rr, turn a true work s = present (work { s with arb := grantedArb s a rr, sent := [] }) := by
  obtain ⟨rr, hw⟩ := h.winner
  exact ⟨rr, turn_granted h.1 hw work⟩

theorem requestTurn_of {s : State} {link : Link} {tag : Nat} {r : Request} (h : Takes s link tag r)
    (work : Nat → State → State) :
    ∃ rr, requestTurn link tag r work s =
      present (work (frontIncarnation s link) (popRequest link { s with arb := grantedArb s (agentOf link) rr, sent := [] })) := by
  unfold requestTurn
  rw [h.2]
  exact turn_of h.1 _

/-- What the turn of a management request leaves, for the work that answers it at its turn. -/
theorem managementTurn_of {s : State} {tag : Nat} {r : Request} (h : Takes s .mgmt tag r) (work : State → State × Reply) :
    ∃ rr, managementTurn tag r work s =
      present (answer (requestKind r) .mgmt 0 tag
        (work { s with arb := grantedArb s agentMG rr, sent := [], mlu := heldMgmt s }).2
        (work { s with arb := grantedArb s agentMG rr, sent := [], mlu := heldMgmt s }).1) :=
  requestTurn_of h _

/-- What the turn of an UP head's request leaves, for the work that answers it at its turn. -/
theorem headTurn_of {s : State} {h : HeadId} {tag : Nat} {r : Request} (ht : Takes s (.head h) tag r)
    (work : Nat → State → State) :
    ∃ rr, requestTurn (.head h) tag r work s =
      present (work (frontIncarnation s (.head h))
        { s with arb := grantedArb s h.val rr, sent := [], heads := s.heads.set h (heldHead (s.heads.get h)) }) :=
  requestTurn_of ht _

/-- What a request's turn does, with the grant the arbiter gave. -/
theorem requestTurn_next {s : State} {link : Link} {tag : Nat} {r : Request} (h : Takes s link tag r)
    (work : Nat → State → State) :
    ∃ rr, winner s = some (agentOf link, rr) ∧ requestTurn link tag r work s =
      present (work (frontIncarnation s link) (popRequest link { s with arb := grantedArb s (agentOf link) rr, sent := [] })) := by
  unfold requestTurn
  rw [h.2]
  obtain ⟨rr, hw⟩ := h.1.winner
  exact ⟨rr, hw, turn_granted h.1.1 hw _⟩

/-- What a management turn leaves, with the arbiter left open. -/
theorem mgmt_next {s : State} {tag : Nat} {r : Request} (h : Takes s .mgmt tag r) (work : State → State × Reply) :
    ∃ rr, winner s = some (agentMG, rr) ∧ ∃ t, managementTurn tag r work s = t ∧
      let u := work { s with arb := grantedArb s agentMG rr, sent := [], mlu := heldMgmt s }
      t = { u.1 with mlu := { u.1.mlu with tags := u.1.mlu.tags.erase tag }, sent := u.1.sent ++ [.reply .mgmt 0 tag (requestKind r) u.2],
                     arb := t.arb } := by
  obtain ⟨rr, hw, e⟩ := requestTurn_next h (fun i t => answer (requestKind r) .mgmt i tag (work t).2 (work t).1)
  exact ⟨rr, hw, _, e, present_eq _⟩

/-- R157: the grant removes the first request from a head's input queue. -/
theorem popRequest_head (s : State) (h : HeadId) (a : Arbiter) :
    popRequest (.head h) { s with arb := a, sent := [] } =
      { s with arb := a, sent := [], heads := s.heads.set h (heldHead (s.heads.get h)) } := rfl

/-- R156, R157: a head that is UP under the named incarnation gets its reply and its tag back. -/
theorem answer_up {h : HeadId} {kind i tag : Nat} {r : Reply} {s : State}
    (hu : (s.heads.get h).link = .up ∧ (s.heads.get h).incarnation = i) :
    answer kind (.head h) i tag r s = { s with
      heads := s.heads.set h { s.heads.get h with tags := (s.heads.get h).tags.erase tag },
      sent := s.sent ++ [.reply (.head h) i tag kind r] } := by
  show ite _ _ _ = _
  rw [if_pos hu]
  rfl

/-- What a head's turn leaves when it is answered at the turn under the same incarnation. -/
theorem head_next {s : State} {h : HeadId} {tag : Nat} {r : Request} (kind : Nat) (ht : TakesUp s h tag r)
    (work : State → State × Reply)
    (hk : ∀ a, ((work { s with arb := a, sent := [], heads := s.heads.set h (heldHead (s.heads.get h)) }).1.heads.get h).link = .up ∧
      ((work { s with arb := a, sent := [], heads := s.heads.set h (heldHead (s.heads.get h)) }).1.heads.get h).incarnation =
        (s.heads.get h).incarnation) :
    ∃ rr, winner s = some (h.val, rr) ∧ ∃ t,
      requestTurn (.head h) tag r (fun i t => answer kind (.head h) i tag (work t).2 (work t).1) s = t ∧
      let u := work { s with arb := grantedArb s h.val rr, sent := [], heads := s.heads.set h (heldHead (s.heads.get h)) }
      t = { u.1 with heads := u.1.heads.set h { u.1.heads.get h with tags := (u.1.heads.get h).tags.erase tag },
                     sent := u.1.sent ++ [.reply (.head h) (s.heads.get h).incarnation tag kind u.2], arb := t.arb } := by
  obtain ⟨rr, hw, e⟩ := requestTurn_next ht.1 (fun i t => answer kind (.head h) i tag (work t).2 (work t).1)
  refine ⟨rr, hw, _, e, ?_⟩
  intro u
  rw [popRequest_head, ht.2.2]
  have hu := hk (grantedArb s h.val rr)
  rw [present_eq, agentOf, answer_up hu]

/-- R114: the comparison changes the record of a difference alone. -/
theorem noteWindow_eq (s : State) :
    noteWindow s = { s with clock := { s.clock with windowDue := (noteWindow s).clock.windowDue } } := by
  unfold noteWindow
  split
  · split <;> rfl
  · rfl

/-- R114: what the comparison leaves of that record. -/
theorem noteWindow_compared (s : State) : WindowCompared s.clock.windowDue (noteWindow s) := by
  unfold noteWindow
  split
  · next h =>
    split
    · next hn => exact ⟨fun _ _ => by simp [hn], fun hs => by rcases hs with hs | hs <;> simp_all [State.given]⟩
    · next hn =>
      refine ⟨fun _ _ => ?_, fun hs => by rcases hs with hs | hs <;> simp_all⟩
      cases hd : s.clock.windowDue with
      | none => exact absurd hd hn
      | some d => simp
  · next h => exact ⟨fun h1 h2 => absurd ⟨h1, h2⟩ h, fun _ => rfl⟩

/-- R163, Table 10-1: the class of a request. -/
theorem requestClass_eq (r : Request) :
    (LooksUp r → requestClass r = .lookup) ∧ (¬ LooksUp r → requestClass r = .update) := by
  cases r <;> simp [LooksUp, requestClass]

end Sys2Proof.Machine
end

