-- ==== Sys2Proof/Tests/Slice0.lean ====
section
/-! SUPPORT. The model's own tests: ill-formed terms that the checks of well-formedness refuse, worked examples of the
manual, and for every statement with hypotheses a named theorem that shows states and operands that meet them, clause by
clause, at the boundary values of their ranges. -/

namespace Sys2Proof.Tests

open Sys2Proof.Machine

-- The tests are checked one after another: run all at once their kernel checks need a thread each.
set_option Elab.async false

/-! ## Builders -/

theorem none_all {α : Type} {o : Option α} {P : α → Prop} (h : o = none) : ∀ r, o = some r → P r := by
  intro r hr; rw [h] at hr; cases hr

theorem some_all {α : Type} {o : Option α} {P : α → Prop} {a : α} (h : o = some a) (hp : P a) : ∀ r, o = some r → P r := by
  intro r hr; rw [h] at hr; cases hr; exact hp

/-- A person with hard limit 100, soft limit 50 and grace period 600. -/
def p0 : Person := ⟨none, false, 100, some 50, 600, .under⟩
/-- A person account of percent 50. -/
def man (p : Person) (f : Figures) : Account := ⟨.person p, 50, f, ⟨0, 0, 0, 0, 0⟩⟩
/-- A group account. -/
def crew (hard : Option Nat) (members : Nat) : Account := ⟨.group ⟨hard, members⟩, 0, ⟨0, 0, 0, 0⟩, ⟨0, 0, 0, 0, 0⟩⟩
/-- A snapshot. -/
def snap (e : Nat) (st : SnapState) (pins : Nat) : Snapshot := ⟨e, 0, 0, st, pins, false, 0⟩
/-- A volume of open epoch 3 on channel 0. -/
def vol (catalogue : List Snapshot) : Volume := ⟨3, none, 64, 60, false, 0, 0, 0, false, 0, none, none, 0, catalogue⟩

/-- The part running, with person 1, group 2, and volume 0 with LIVE snapshots 1 (pinned) and 2. -/
def world : State :=
  { State.reset with
    part := .running, accounts := [(1, man p0 ⟨0, 0, 0, 0⟩), (2, crew (some 10) 0)],
    volumes := [(0, vol [snap 1 .live 1, snap 2 .live 0])] }

/-- A management request at the front of its queue, its operation waiting alone. -/
def asked (r : Request) (s : State) : State :=
  { s with mlu := { s.mlu with requests := [⟨0, 1, r⟩], tags := [1] }, arb := { s.arb with waiting := [(4, ⟨.update, 0, .link⟩)] } }

/-- Head 0 UP with incarnation 1. -/
def up0 (s : State) : State :=
  { s with heads := s.heads.set 0 { s.heads.get 0 with link := .up, incarnation := 1, detect := some 8 } }

/-- A request of head 0 at the front of its queue, its operation waiting alone. -/
def askedUp (r : Request) (s : State) : State :=
  { s with heads := s.heads.set 0 { s.heads.get 0 with link := .up, incarnation := 1, detect := some 8, requests := [⟨1, 1, r⟩],
                                                       tags := [1] },
           arb := { s.arb with waiting := [(0, ⟨.update, 0, .link⟩)] } }

/-- An agent waiting alone with some work. -/
def waits (a : Nat) (w : Work) (s : State) : State := { s with arb := { s.arb with waiting := [(a, ⟨.update, 0, w⟩)] } }

/-- A channel with another record. -/
def chanAt (c : ChanId) (x : Channel) (s : State) : State := { s with channels := s.channels.set c x }

/-- Channel 0 with another record. -/
def chan0 (x : Channel) (s : State) : State := chanAt 0 x s

/-- Head 0 with another slot 0. -/
def slot0 (x : Slot) (s : State) : State := setSlot 0 0 x s

/-- A frame with flags 0. -/
def frame (kind incarnation tag : Nat) (body : List Byte) : List Byte :=
  Envelope.bytes ⟨BitVec.ofNat 8 kind, 0, incarnation, tag, body⟩

/-! ## Well-formedness: one ill-formed term for each check -/

theorem test_wellFormed_refuses :
    (∀ i ∈ [Instr.status 65536, .reserve 0 65536 1 0 1 1, .reserve 0 1 65536 0 1 1, .reserve 0 1 1 256 1 1,
        .reserve 0 1 1 0 65536 1, .reserve 0 1 1 0 1 65536, .commit 0 1 256 0 1, .commit 0 1 0 256 1, .commit 0 1 0 0 65536,
        .returnSlot 0 1 256 0, .returnSlot 0 1 0 256, .release 0 1 65536 0 [], .release 0 1 1 256 [],
        .release 0 1 1 0 (List.replicate 256 0), .release 0 1 1 0 [4294967296], .seal .mgmt 1 256 0, .seal .mgmt 1 0 256,
        .restore .mgmt 1 ⟨65536, none, 0, 1, 0, []⟩, .restore .mgmt 1 ⟨1, some 0, 0, 1, 0, []⟩,
        .restore .mgmt 1 ⟨1, some 65536, 0, 1, 0, []⟩, .restore .mgmt 1 ⟨1, none, 256, 1, 0, []⟩,
        .restore .mgmt 1 ⟨1, none, 0, 4294967296, 0, []⟩, .restore .mgmt 1 ⟨1, none, 0, 1, 256, []⟩,
        .restore .mgmt 1 ⟨1, none, 0, 1, 0, [4294967296]⟩, .cancelRestore .mgmt 1 65536, .queryAccount .mgmt 1 65536,
        .queryVolume .mgmt 1 256, .managementRequestArrival (.items true 0x18 65536 none),
        .managementRequestArrival (.items true 0x18 1 (some (.queryVolume 256))), .poolReadCompletion 0 8 1 .fault,
        .poolReadCompletion 0 0 4294967296 .fault, .poolReadCompletion 0 0 1 (.payload [])], i.wellFormed = false) ∧
    (∀ i ∈ [Instr.powerOn, .status 65535, .reserve 3 65535 65535 255 65535 65535, .release 0 1 1 0 (List.replicate 255 0),
        .poolReadCompletion 3 7 4294967295 .fault], i.wellFormed = true) := by decide +kernel

/-! ## Worked values of the manual -/

/-- R140: the CRC-32 of the nine ASCII bytes 1 to 9. -/
theorem test_crc32_check_value : crc32 [0x31, 0x32, 0x33, 0x34, 0x35, 0x36, 0x37, 0x38, 0x39] = 0xCBF43926#32 := by decide +kernel

/-- Table 2-3: the headrooms of account 4,711 and the limiting term. -/
theorem test_admission_worked_case :
    let p : Person := ⟨some 12, false, 40960, some 32768, 604800, .under⟩
    let a := man p ⟨31000, 1200, 0, 3001⟩
    let s : State := { world with
      pool := { world.pool with free := 5120, floor := 4096 }
      accounts := [(12, ⟨.group ⟨some 1000000, 1⟩, 25, ⟨962500, 9800, 0, 60003⟩, ⟨0, 0, 0, 0, 0⟩⟩), (4711, a)] }
    ownHeadroom a p = 7259 ∧ groupHeadroom s p = some 12699 ∧ poolHeadroom s p = 1024 ∧
      limitingTerm (ownHeadroom a p) (groupHeadroom s p) (some (poolHeadroom s p)) = .poolLimit := by decide +kernel

/-- A LIVE extent. -/
def live : Extent := .live 9 8200 1 1

/-- Table 3-4: the pool of the worked zone scan. -/
def scanPool : Pool :=
  ⟨1024, 0, 0, ((List.replicate 64 16).set 33 5 |>.set 34 0 |>.set 35 12),
    [528, 529, 530, 531, 532, 533, 534, 536, 539, 541, 542, 544, 545, 546, 547, 548, 549, 550, 551, 552, 553, 554, 555, 556,
      557, 558, 559, 562, 564, 568, 570].map fun x => (x, live)⟩

/-- Table 3-5: the eight runs of the worked zone scan; and its second variant, six extents in five runs. -/
theorem test_zone_scan_worked :
    (zoneScan scanPool 33 534 40).runs.reverse =
      [⟨535, 1⟩, ⟨537, 2⟩, ⟨540, 1⟩, ⟨543, 1⟩, ⟨560, 2⟩, ⟨563, 1⟩, ⟨565, 3⟩, ⟨569, 1⟩] ∧
    (zoneScan scanPool 33 534 40).count = 12 ∧
    (zoneScan scanPool 33 534 6).runs.reverse = [⟨535, 1⟩, ⟨537, 2⟩, ⟨540, 1⟩, ⟨543, 1⟩, ⟨560, 1⟩] := by decide +kernel

/-- Table 10-5: who wins turns 1, 2, 4 and 6 under the loaded NIGHT set. -/
theorem test_worked_turns :
    let set : ArbSet := ⟨[⟨7, .any⟩, ⟨0, .update⟩, ⟨7, .lookup⟩, ⟨6, .any⟩], [⟨8, .any⟩]⟩
    let w := fun (c : OpClass) (age : Nat) => (⟨c, age, .link⟩ : Waiting)
    decideTurn [(0, w .lookup 0), (1, w .update 0), (4, w .update 0), (7, w .lookup 0)] set 0 2 = some (7, false) ∧
    decideTurn [(0, w .lookup 1), (1, w .update 1), (4, w .update 1), (7, w .lookup 0)] set 1 2 = some (4, true) ∧
    decideTurn [(0, w .lookup 3), (1, w .update 3), (8, w .update 0)] set 3 4 = some (8, false) ∧
    decideTurn [(1, w .update 5)] set 1 0 = some (1, true) := by decide +kernel

/-- Table 11-4: a deadline moved by a SET_CLOCK from 200,000 to 190,000; below 0 and above the upper end. -/
theorem test_set_clock_worked :
    moveTime 200000 190000 200120 = 190120 ∧ moveTime 200000 190000 9999 = 0 ∧
      moveTime 0 1 1099511627775 = 1099511627775 := by decide +kernel

/-- R184, R185: codes that a reader of Chapter 12 can look up. -/
theorem test_codes :
    Code.value .ok = 0 ∧ Code.value .tooLate = 0x15 ∧ Code.value .noPass = 0x22 ∧ Condition.value .cancelled = 7 ∧
      Mark.value .alreadyLive = 7 := by decide +kernel

/-- R180: an envelope written out byte by byte: KEEP of incarnation 1, tag 0, without its check. -/
theorem test_keep_bytes :
    (frame 0x03 1 0 []).take 10 = [0x03, 0, 0, 0, 0, 0, 0, 1, 0, 0] ∧ (frame 0x03 1 0 []).length = 14 ∧
      readHeadFrame (frame 0x03 1 0 []) = .keep := by decide +kernel

/-- R181: a RESERVE read from its body: account 1, volume 2, want 256, minimum 3. -/
theorem test_reserve_body :
    readRequest 0x10 [0, 1, 2, 1, 0, 0, 3] = some (.reserve 1 2 256 3) ∧ readRequest 0x10 [0, 1, 2, 1, 0, 0] = none := by
  decide +kernel

/-- R14: a run is broken by an extent that is not next to the one before. -/
theorem test_journal_runs :
    (runsOf [some ⟨.birth, 0, 5, 1, none⟩, some ⟨.birth, 0, 6, 1, none⟩, some ⟨.birth, 0, 8, 1, none⟩]).map
      (fun e => (e.first, e.count)) = [(5, 2), (8, 1)] := by decide +kernel

/-- The reset state steps: a command on the queue is taken, and an empty queue idles. -/
theorem test_step_from_reset :
    (∃ t, step { State.reset with pending := [.startScanEnd] } = .next t ∧ t.part = .running ∧
      t.mlu.notices = [.startDone true false 1024 0 0]) ∧ step State.reset = .next State.reset := by
  exact ⟨⟨_, rfl, by decide +kernel, by decide +kernel⟩, rfl⟩

/-! ## Witnesses: states and operands that meet the hypotheses of each statement, clause by clause -/

theorem witness_StepRunsFront : { world with pending := [.powerOn, .status 1] }.pending = .powerOn :: [.status 1] := rfl

theorem witness_EnvelopeRoundTrip :
    let e : Envelope := ⟨255, 255, 65535, 65535, [0]⟩
    e.body.length < 256 ^ 4 ∧ e.incarnation < 256 ^ 2 ∧ e.tag < 256 ^ 2 := by decide +kernel

theorem witness_HeadRequestRoundTrip :
    65535 < 256 ^ 2 ∧
    ∀ r ∈ [Request.reserve 65535 255 65535 65535, .commit 255 255 65535, .returnSlot 255 255, .release 65535 255 [4294967295],
        .seal 255 255, .restore ⟨65535, some 65535, 255, 4294967295, 255, [4294967295]⟩, .restore ⟨0, none, 0, 0, 0, []⟩,
        .cancelRestore 65535, .queryAccount 65535, .queryVolume 255],
      (requestBody? r).isSome = true ∧ r.fits = true := by decide +kernel

theorem witness_BadFramesDiscarded :
    readEnvelope [] = none ∧ readEnvelope ((frame 0x03 1 0 []).set 13 0) = none ∧
      readEnvelope (frame 0x03 1 0 [] ++ [0]) = none ∧
    ∀ b ∈ [[], frame 0x90 0 0 (List.replicate 11 0), frame 0x90 0 0 (List.replicate 13 0), frame 0x84 0 0 (List.replicate 8 0)],
      ((readEnvelope b).all fun e => (e.kind, e.body.length) ∉ [(0x90#8, 12), (0x91#8, 8), (0x92#8, 9), (0x93#8, 8)]) = true := by
  decide +kernel

/-- Head 3 waiting with a query, and agent SN with a walk step: check 4 decides. -/
def rrState : State :=
  { world with
    heads := world.heads.set 3 { world.heads.get 3 with link := .up, requests := [⟨0, 1, .queryVolume 0⟩], tags := [1] }
    arb := { world.arb with waiting := [(3, ⟨.lookup, 63, .link⟩), (6, ⟨.update, 5, .sn .walkStep⟩)] } }

theorem witness_ArbiterAtEveryRequestTurn :
    ((Instr.setFloor 1 0).taken = some (.mgmt, 1, .setFloor 0) ∧ Request.setFloor 0 ≠ .restart ∧
      Takes (asked (.setFloor 0) world) .mgmt 1 (.setFloor 0) ∧
      winner (asked (.setFloor 0) world) = some (agentOf .mgmt, false)) ∧
    ((Instr.queryVolume (.head 3) 1 0).taken = some (.head 3, 1, .queryVolume 0) ∧
      Takes rrState (.head 3) 1 (.queryVolume 0) ∧ winner rrState = some (agentOf (.head 3), true) ∧
      6 ≠ agentOf (.head 3) ∧ look rrState.arb.waiting 6 = some ⟨.update, 5, .sn .walkStep⟩ ∧
      Rising rrState.arb.waiting ∧ ∀ b ∈ [0, 1, 2, 4, 5, 7], look rrState.arb.waiting b = none) := by decide +kernel

theorem witness_ArbiterAtEveryRequestTurn_turns :
    let lost : State := { waits 0 .link world with heads := world.heads.set 0 { world.heads.get 0 with cleanup := some ⟨.leave, 1⟩ } }
    let due : State := { world with clock := ⟨3600, true, .closed, some 3600, false⟩ }
    (lost.part = .running ∧ winner lost = some (0, false) ∧ (lost.heads.get 0).cleanup ≠ none) ∧
    (∀ x ∈ [(5, Work.restoreStep), (6, .sn .sealOp), (6, .sn .walkStep), (7, .dp 0 .start), (7, .dp 0 .evaluate),
        (7, .dp 0 .complete)],
      (waits x.1 x.2 world).part = .running ∧ winner (waits x.1 x.2 world) = some (x.1, true) ∧
      look (waits x.1 x.2 world).arb.waiting x.1 = some ⟨.update, 0, x.2⟩) ∧
    (∀ x ∈ [Work.ck .window, .ck (.lapse 0 0 1), .ck (.grace 1)],
      winner (waits 8 x world) = some (8, false) ∧ look (waits 8 x world).arb.waiting 8 = some ⟨.update, 0, x⟩) ∧
    (winner (waits 8 (.ck .window) due) = some (8, false) ∧ (waits 8 (.ck .window) due).given ≠ due.clock.window) ∧
    world.given = world.clock.window := by decide +kernel

/-- A state with no agent waiting, one with head 0 waiting, and one in which a start scan is in progress: commands without
a turn. -/
theorem witness_ArbiterAtEveryRequestTurn_events :
    let idle := up0 world
    let full := waits 0 .link (up0 world)
    let gate := fun (kind : Nat) (l : List Byte) => frame kind 0 0 (beBytes 4 1 ++ beBytes 4 1 ++ l)
    (∀ i ∈ [Instr.wallClockTick, .join 0 (frame 0x01 0 1 []), .leave 0 (frame 0x02 1 1 []), .keep 0 (frame 0x03 0 0 []),
        .keep 0 (frame 0x03 0 0 [1]), .noticeRead (.head 0) (frame 0x04 1 1 [1]), .noticeRead .mgmt (frame 0x04 0 1 [1]),
        .headRequestArrival 0 (frame 0x18 1 1 [3]), .managementRequestArrival (.raw (frame 0x18 0 1 [3])), .detectExpiry 0,
        .frameSend, .transmissionEnd, .accept (gate 0x90 (beBytes 4 7)), .defer (gate 0x91 []), .refuse (gate 0x92 [3]),
        .ready (gate 0x93 []), .responseTimeout 0, .poolReadIssue, .poolReadCompletion 0 0 1 .fault], TakenAtOnce i) ∧
    (idle.part = .running ∧ (∀ a, a < 8 → look idle.arb.waiting a = none) ∧ look idle.arb.waiting 8 = none) ∧
    (full.part = .running ∧ look full.arb.waiting 0 = some ⟨.update, 0, .link⟩) ∧ State.reset.part = .starting true := by
  refine ⟨?_, by decide +kernel, by decide +kernel, rfl⟩
  intro i hi
  simp only [List.mem_cons, List.not_mem_nil, or_false] at hi
  rcases hi with rfl | rfl | rfl | rfl | rfl | rfl | rfl | rfl | rfl | rfl | rfl | rfl | rfl | rfl | rfl | rfl | rfl | rfl | rfl
  · exact .tick
  · exact .join (tag := 1) (by decide +kernel)
  · exact .leave (incarnation := 1) (tag := 1) (by decide +kernel)
  · exact .keep (by decide +kernel)
  · exact .otherFrame (h := 0) (frame := frame 0x03 0 0 [1]) (kind := 3) (by decide +kernel) (by simp)
  · exact .headNotices (incarnation := 1) (tag := 1) (count := 1) (by decide +kernel)
  · exact .mgmtNotices (tag := 1) (count := 1) (by decide +kernel)
  · exact .headRequest (kind := 0x18) (incarnation := 1) (tag := 1) (r := some (.queryVolume 3)) (by decide +kernel)
  · exact .mgmtRequest (kind := 0x18) (tag := 1) (r := some (.queryVolume 3)) (by decide +kernel)
  · exact .detectExpiry
  · exact .frameSend
  · exact .transmissionEnd
  · exact .accept (id := 1) (seq := 1) (echo := 7) (by decide +kernel)
  · exact .defer (id := 1) (seq := 1) (by decide +kernel)
  · exact .refuse (id := 1) (seq := 1) (reason := 3) (by decide +kernel)
  · exact .ready (id := 1) (seq := 1) (by decide +kernel)
  · exact .responseTimeout
  · exact .poolReadIssue
  · exact .poolReadCompletion

/-- R158, R162: a request that arrives makes its idle head wait, in the class of the request; a loss keeps the age of a
head that waits, in class UPDATE. -/
theorem test_events_present :
    let old : State := { up0 world with arb := { world.arb with waiting := [(0, ⟨.lookup, 9, .link⟩)] } }
    (∃ t, exec (.headRequestArrival 0 (frame 0x18 1 1 [3])) (up0 world) = .next t ∧
      t.arb.waiting = [(0, ⟨.lookup, 0, .link⟩)]) ∧
    (∃ t, exec (.detectExpiry 0) old = .next t ∧ t.arb.waiting = [(0, ⟨.update, 9, .link⟩)]) :=
  ⟨⟨_, rfl, by decide +kernel⟩, _, rfl, by decide +kernel⟩

theorem witness_GrantDecision :
    let l : Table Waiting := [(2, ⟨.lookup, 64, .link⟩), (5, ⟨.update, 64, .restoreStep⟩), (8, ⟨.update, 63, .ck .window⟩)]
    (Rising l ∧ look l 2 = some ⟨.lookup, 64, .link⟩ ∧
      (∀ b v, look l b = some v → v.age < 64 ∨ (v.age = 64 ∧ 2 ≤ b))) ∧
    (8 ≤ 8 ∧ look l 8 = some ⟨.update, 63, .ck .window⟩) := by
  refine ⟨⟨by decide +kernel, by decide +kernel, ?_⟩, by decide +kernel⟩
  intro b v h
  simp only [look] at h
  split at h
  · cases h; subst_vars; simp
  split at h
  · cases h; subst_vars; simp
  split at h
  · cases h; simp
  · cases h

theorem witness_GrantDecision_checks :
    let w := fun (c : OpClass) => (⟨c, 63, .link⟩ : Waiting)
    let l : Table Waiting := [(3, w .update), (7, w .lookup), (8, w .update)]
    let set : ArbSet := ⟨[⟨3, .any⟩, ⟨3, .update⟩, ⟨7, .lookup⟩, ⟨7, .update⟩, ⟨2, .any⟩], [⟨2, .any⟩, ⟨8, .lookup⟩, ⟨8, .update⟩, ⟨3, .any⟩]⟩
    Rising l ∧ (∀ p ∈ l, p.2.age < 64) ∧
    -- slots 0 to 2 name a waiting operation, slots 3 and 4 and the place past the last do not
    ([set.slots[0]?, set.slots[1]?, set.slots[2]?] = [some ⟨3, .any⟩, some ⟨3, .update⟩, some ⟨7, .lookup⟩] ∧
      look l 3 = some (w .update) ∧ look l 7 = some (w .lookup)) ∧
    (set.slots[3]? = some ⟨7, .update⟩ ∧ set.slots[4]? = some ⟨2, .any⟩ ∧ look l 2 = none ∧ set.slots[5]? = none) ∧
    -- the third priority entry is the first that matches
    (set.priority = [⟨2, .any⟩, ⟨8, .lookup⟩] ++ ⟨8, .update⟩ :: [⟨3, .any⟩] ∧ look l 8 = some (w .update)) ∧
    -- cyclic order: the agent just after the last winner, and the last winner itself
    (look l ((2 + 1 + 0) % 9) = some (w .update) ∧
      look [(3, w .update)] ((3 + 1 + 8) % 9) = some (w .update) ∧
      ∀ j < 8, look [(3, w .update)] ((3 + 1 + j) % 9) = none) ∧
    -- turns that are not granted
    ((Instr.status 1).taken = some (.mgmt, 1, .status) ∧ ¬ Takes world .mgmt 1 .status ∧
      ¬ Takes (waits 5 .restoreStep (asked .status world)) .mgmt 1 .status ∧ ¬ Granted (asked .status world) 5) := by
  decide +kernel

theorem witness_AdmissionTerms :
    let s : State := { world with
      accounts := [(1, man { p0 with parent := some 2 } ⟨0, 0, 0, 0⟩), (2, crew (some 10) 1), (3, crew none 1)]
      pool := { world.pool with floor := 1024 } }
    look s.accounts 2 = some (crew (some 10) 1) ∧ (crew (some 10) 1).body = .group ⟨some 10, 1⟩ ∧
    look s.accounts 3 = some (crew none 1) ∧ (crew none 1).body = .group ⟨none, 1⟩ ∧
    effectiveUse (crew (some 10) 1) ≤ 10 ∧ s.pool.floor ≤ s.pool.free ∧ s.pool.free ≤ s.pool.floor ∧
    effectiveUse (man p0 ⟨100, 0, 0, 0⟩) = effectiveLimit p0 ∧ effectiveLimit { p0 with quota := .lapsed } = 50 ∧
    headroomOf 5 (some 5) (some 5) = 5 ∧ headroomOf 6 (some 5) (some 5) = 5 ∧ headroomOf 6 (some 6) (some 5) = 5 := by
  decide +kernel

theorem witness_QuotaTransitions :
    50 ≤ softLimit p0 ∧ softLimit p0 < 51 ∧ p0.quota = .under ∧ 0 < p0.grace ∧
    1099511627175 + p0.grace ≤ clockMax ∧ { p0 with grace := 0 }.quota = .under ∧
    { p0 with quota := .overSoft 7 }.quota = .overSoft 7 ∧ softLimit { p0 with quota := .lapsed } < 51 := by decide +kernel

theorem witness_PoolSettingsStored :
    (∀ x ∈ [0, 1024, 1025], Takes (asked (.setFloor x) world) .mgmt 1 (.setFloor x)) ∧
    (∀ x ∈ [9, 10, 3600, 3601], Takes (asked (.setReservationHold x) world) .mgmt 1 (.setReservationHold x)) ∧
    (∀ x ∈ [0, 600, 601], Takes (asked (.setPoolSpacing x) world) .mgmt 1 (.setPoolSpacing x)) := by decide +kernel

theorem witness_QueriesReadOnly :
    (∀ n ∈ [0, 1, 2, 65535], Takes (asked (.queryAccount n) world) .mgmt 1 (.queryAccount n) ∧
      TakesUp (askedUp (.queryAccount n) world) 0 1 (.queryAccount n)) ∧
    (∀ v ∈ [0, 63, 64], Takes (asked (.queryVolume v) world) .mgmt 1 (.queryVolume v) ∧
      TakesUp (askedUp (.queryVolume v) world) 0 1 (.queryVolume v)) ∧
    Takes (asked .status world) .mgmt 1 .status ∧ Takes (asked .queryArbiter world) .mgmt 1 .queryArbiter ∧
    winner (asked .queryArbiter world) = some (4, false) ∧
    (let V := vol [snap 1 .live 1, snap 2 .live 0];
      volume? world 0 = some V ∧ (∀ e ∈ world.epu.sealQueue, e.volume ≠ 0)) ∧
    (let d : SealEntry := ⟨0, 9, [.mgmt 2]⟩; let s : State := { world with epu := { world.epu with sealQueue := [d] } };
      s.epu.sealQueue.find? (fun e => e.volume = 0) = some d) ∧
    (let s : State := { world with clock := ⟨3600, true, .open_, none, false⟩ };
      s.clock.window = .open_ ∧ s.given = .open_ ∧ world.clock.window = .closed) := by decide +kernel

theorem witness_SupplyAndClock :
    world.part ≠ .off ∧
    ({ world with part := .off, clock := { world.clock with now := clockMax } }.part = .off ∧ world.clock.backupLost = false) ∧
    ({ world with part := .off, clock := { world.clock with backupLost := true } }.part = .off ∧
      { world with part := .off, clock := { world.clock with backupLost := true } }.clock.backupLost = true) := by
  decide +kernel

/-- R114: comparisons that find a difference, new or recorded already, and that find none, the clock set or not. -/
theorem witness_WindowCompared :
    let at_ := fun (now : Nat) (on : Bool) (due : Option Nat) => ({ world with clock := ⟨now, on, .closed, due, false⟩ } : State)
    let differs := fun (t : State) => t.clock.isSet = true ∧ t.given ≠ t.clock.window
    let agrees := fun (t : State) => t.clock.isSet = false ∨ t.given = t.clock.window
    (∀ due ∈ [none, some 3000], ∃ t, exec .wallClockTick (at_ 3599 true due) = .next t ∧ differs t) ∧
    (∃ t, exec .wallClockTick (at_ 21599 true (some 3600)) = .next t ∧ agrees t) ∧
    (∃ t, exec .wallClockTick (at_ 3599 false none) = .next t ∧ agrees t) ∧
    (∃ t, exec (.setClock 1 3600) (asked (.setClock 3600) world) = .next t ∧ differs t) ∧
    (∃ t, exec (.setClock 1 0) (asked (.setClock 0) (at_ 3600 true (some 3600))) = .next t ∧ agrees t) ∧
    (∃ t, exec (.setWindow 1 3600 7200) (asked (.setWindow 3600 7200) (at_ 3600 true none)) = .next t ∧ differs t) ∧
    (∃ t, exec (.setWindow 1 5 5) (asked (.setWindow 5 5) (at_ 3600 true (some 3600))) = .next t ∧ agrees t) ∧
    (at_ 3600 true none).part ≠ .off := by
  refine ⟨?_, ⟨_, rfl, by decide +kernel⟩, ⟨_, rfl, by decide +kernel⟩, ⟨_, rfl, by decide +kernel⟩,
    ⟨_, rfl, by decide +kernel⟩, ⟨_, rfl, by decide +kernel⟩, ⟨_, rfl, by decide +kernel⟩, by decide +kernel⟩
  intro due h
  simp only [List.mem_cons, List.not_mem_nil, or_false] at h
  rcases h with rfl | rfl <;> exact ⟨_, rfl, by decide +kernel⟩

theorem witness_StartScan :
    let starting : State := { world with part := .starting false }
    ({ world with part := .off }.part = .off ∧ world.part ≠ .off) ∧ Takes (asked .restart world) .mgmt 1 .restart ∧
    (starting.part = .starting false ∧ TablesCanonical starting ∧
      ∀ v V, look starting.volumes v = some V → EpochsDistinct V) := by
  refine ⟨by decide +kernel, by decide +kernel, rfl, by unfold TablesCanonical; decide +kernel, ?_⟩
  intro v V h
  have h := mem_keys_of_look h
  simp only [world, List.mem_singleton, Prod.mk.injEq] at h
  rw [h.2]; decide

/-- The part with the clock set, an OVER_SOFT account, and an OPEN and a LAPSED slot. -/
def timed : State :=
  { slot0 ⟨1, some ⟨.open_, 1, 0, [⟨5, 1⟩], 1, 0, 200120⟩⟩ world with
    clock := ⟨200000, true, .closed, none, false⟩
    accounts := [(1, man { p0 with quota := .overSoft 700000 } ⟨60, 0, 0, 0⟩), (2, crew (some 10) 0)] }

theorem witness_SetClockMovesDeadlines :
    (∀ x ∈ [0, 190000, 1099511627775, 1099511627776], Takes (asked (.setClock x) timed) .mgmt 1 (.setClock x)) ∧
    (asked (.setClock 190000) timed).clock.isSet = true ∧
    (Takes (asked (.setClock 0) world) .mgmt 1 (.setClock 0) ∧ (asked (.setClock 0) world).clock.isSet = false) ∧
    look timed.accounts 1 = some (man { p0 with quota := .overSoft 700000 } ⟨60, 0, 0, 0⟩) ∧
    look timed.accounts 2 = some (crew (some 10) 0) := by decide +kernel

theorem witness_FormatEmptiesPool :
    (∀ n ∈ [1023, 1024, 134217728, 134217729], Takes (asked (.format n 0) world) .mgmt 1 (.format n 0)) ∧
    ((∀ h, (world.heads.get h).link = .down ∧ (world.heads.get h).cleanup = none) ∧
      (∀ c, (world.channels.get c).state = .idle) ∧ world.dpu.inFlight = []) ∧
    (Takes (asked (.format 1024 0) (up0 world)) .mgmt 1 (.format 1024 0) ∧ ((up0 world).heads.get 0).link ≠ .down) ∧
    (let s := chan0 { Channel.reset with state := .stopped } world;
      Takes (asked (.format 1024 0) s) .mgmt 1 (.format 1024 0) ∧ (s.channels.get 0).state ≠ .idle) ∧
    look world.accounts 1 = some (man p0 ⟨0, 0, 0, 0⟩) ∧ look world.accounts 2 = some (crew (some 10) 0) := by decide +kernel

/-- A FORMAT with management waiters, a nightly trigger and restores of the management link and of a head. -/
theorem witness_FormatEmptiesPool_answers :
    let c := fun (w : Submitter) (tag : Nat) => (⟨0, w, tag, 1, none, 0, 2, .allOrNone, [⟨7, .unclassified⟩], .verify, 0, 0, 0, none, false⟩ : Context)
    let s := asked (.format 1024 0) { world with
      epu := { world.epu with sealQueue := [⟨0, 9, [.mgmt 2, .nightly, .mgmt 3]⟩] }
      rsq := ⟨[c .mgmt 5, c (.head 0 1) 6], none⟩ }
    Takes s .mgmt 1 (.format 1024 0) ∧ (∀ h, (s.heads.get h).link = .down ∧ (s.heads.get h).cleanup = none) ∧
      (∀ c, (s.channels.get c).state = .idle) ∧ s.dpu.inFlight = [] ∧
      (s.epu.sealQueue.map fun e => e.waiters) = [[.mgmt 2, .nightly, .mgmt 3]] ∧
      (s.rsq.contexts.map fun c => c.submitter) = [.mgmt, .head 0 1] := by decide +kernel

theorem witness_ManagementArrival :
    let f : MgmtFrame := .items true (BitVec.ofNat 8 (requestKind .status)) 1 (some .status)
    let g : MgmtFrame := .items true 0x4B 1 (some (.setFloor 0))
    let full : State := { world with mlu := { world.mlu with requests := List.replicate 16 ⟨0, 2, .status⟩ } }
    let room : State := { world with mlu := { world.mlu with requests := List.replicate 15 ⟨0, 2, .status⟩ } }
    (readManagementFrame f = .request (requestKind .status) 1 (some .status) ∧ State.reset.part = .starting true) ∧
    (readManagementFrame g = .request 0x4B 1 (some (.setFloor 0)) ∧ some (Request.setFloor 0) ≠ some .status) ∧
    (readManagementFrame (.raw (frame 0x18 0 1 [3])) = .request 0x18 1 (some (.queryVolume 3)) ∧ world.part = .running) ∧
    1 ∈ (asked .status world).mlu.tags ∧ (1 ∉ full.mlu.tags ∧ 16 ≤ full.mlu.requests.length) ∧
    (1 ∉ room.mlu.tags ∧ room.mlu.requests.length < 16) ∧
    readManagementFrame (.items true 0x3F 1 none) = .request 0x3F 1 none ∧
    readManagementFrame (.items true 0x11 1 (some (.commit 0 0 1))) = .request 0x11 1 none := by decide +kernel

theorem witness_TableCursor :
    (Takes (asked (.setCursor (some .account) 65535 0) world) .mgmt 1 (.setCursor (some .account) 65535 0) ∧
      positionInRange .account 65535 0 = true ∧ positionInRange .account 65536 0 = false ∧ positionInRange .account 0 0 = false) ∧
    Takes (asked (.setCursor none 0 0) world) .mgmt 1 (.setCursor none 0 0) ∧
    (∀ n ∈ [0, 1, 16, 17], Takes (asked (.cursorRead n true true) world) .mgmt 1 (.cursorRead n true true)) ∧
    CursorRecord.account 1 (man p0 ⟨0, 0, 0, 0⟩) ∈ ((recordsFrom world 17).take 1).map Prod.snd ∧
    (let s : State := { world with mlu := { world.mlu with cursorTable := .channel, cursorPos := 3 } };
      CursorRecord.channel 3 (s.channels.get 3) ∈ ((recordsFrom s 17).take 1).map Prod.snd ∧
      ((recordsFrom s 17).take 1).getLast?.isSome = true ∧ s.mlu.cursorTable ≠ .snapshot) ∧
    (let s : State := { world with mlu := { world.mlu with cursorTable := .snapshot, cursorPos := 0, cursorEpoch := 1 } };
      ((recordsFrom s 17).take 16).length = 2) := by decide +kernel

/-- Table 11-3: a record of each table at its first and last position, and a position that the cursor has passed. -/
theorem witness_TableCursor_records :
    let at_ := fun (T : CursorTable) (p e : Nat) =>
      ({ world with mlu := { world.mlu with cursorTable := T, cursorPos := p, cursorEpoch := e },
                    journal := ⟨[⟨7, .birth, 0, 5, 1, 3, none⟩], 8, 7⟩ } : State)
    TablesCanonical (at_ .snapshot 0 2) ∧ JournalWell (at_ .snapshot 0 2) ∧
    (∀ v V, look (at_ .snapshot 0 2).volumes v = some V → (V.catalogue.map (·.epoch)).Pairwise (· < ·)) ∧
    StandsAt (at_ .account 1 0) (2, 0) (.account 2 (crew (some 10) 0)) ∧
    StandsAt (at_ .snapshot 0 2) (0, 2) (.snapshot 0 (snap 2 .live 0)) ∧
    StandsAt (at_ .extent 0 0) (1023, 0) (.extent 1023 none) ∧
    StandsAt (at_ .journal 7 0) (7, 0) (.journal ⟨7, .birth, 0, 5, 1, 3, none⟩) ∧
    StandsAt (at_ .reservation 0 0) (127, 0) (.reservation 3 31 ⟨0, none⟩) ∧
    StandsAt (at_ .channel 3 0) (3, 0) (.channel 3 (world.channels.get 3)) ∧
    (recordsFrom (at_ .snapshot 0 2) 17).map Prod.fst = [(0, 2)] := by
  refine ⟨by unfold TablesCanonical; decide +kernel, ⟨rfl, by decide, ?_⟩, ?_, ⟨rfl, _, rfl, rfl⟩, ⟨_, snap 2 .live 0, rfl, by decide, rfl, rfl⟩,
    ⟨rfl, by decide, rfl⟩, ⟨rfl, _, List.mem_singleton_self _, rfl, rfl⟩, ⟨rfl, 3, 31, by decide, rfl, by decide +kernel⟩,
    ⟨rfl, 3, rfl, rfl⟩, by decide +kernel⟩
  · intro i e h
    match i, h with
    | 0, h => cases h; rfl
    | i + 1, h => simp at h
  · intro v V h
    have h := mem_keys_of_look h
    simp only [world, List.mem_singleton, Prod.mk.injEq] at h
    rw [h.2]; decide

theorem witness_ArbiterLoad :
    let e : EntryRequest := ⟨8, some .any⟩
    let malformed := fun (l m : List EntryRequest) => l = [] ∨ 16 < l.length ∨ 9 < m.length ∨
      ∃ e ∈ l ++ m, 8 < e.agent ∨ e.qualifier = none
    (∀ n ∈ [SetName.day, .night], Takes (asked (.loadArbiter (some n) [e] []) world) .mgmt 1 (.loadArbiter (some n) [e] [])) ∧
    (SetName.night ≠ activeName world ∧ SetName.day = activeName world) ∧
    (¬ malformed [e] [] ∧ ¬ malformed (List.replicate 16 e) (List.replicate 9 e) ∧ ¬ malformed [⟨0, some .lookup⟩] []) ∧
    (Takes (asked (.loadArbiter none [] []) world) .mgmt 1 (.loadArbiter none [] []) ∧ malformed [] [] ∧
      malformed (List.replicate 17 e) [] ∧ malformed [e] (List.replicate 10 e) ∧
      malformed [⟨9, some .any⟩] [] ∧ malformed [⟨8, none⟩] []) := by decide +kernel

theorem witness_JoinRaisesLink :
    readHeadFrame (frame 0x01 0 1 []) = .join 1 ∧
    (world.part = .running ∧ (world.heads.get 0).barred = false ∧ (world.heads.get 0).link ≠ .up) ∧
    (((up0 world).heads.get 0).barred = false ∧ ((up0 world).heads.get 0).link = .up ∧
      look (waits 0 .link (up0 world)).arb.waiting 0 = some ⟨.update, 0, .link⟩) ∧
    (let s := modifyHead 0 (fun H => { H with barred := true }) world;
      s.part = .running ∧ (s.heads.get 0).barred = true ∧ (s.heads.get 0).link ≠ .up) ∧
    State.reset.part = .starting true := by decide +kernel

theorem witness_LeaveKeepDetect :
    readHeadFrame (frame 0x02 1 1 []) = .leave 1 1 ∧ readHeadFrame (frame 0x02 65535 1 []) = .leave 65535 1 ∧
    readHeadFrame (frame 0x03 0 0 []) = .keep ∧ (up0 world).part = .running ∧
    readHeadFrame (frame 0x03 0 0 [1]) = .timerOnly 0x03 ∧ readHeadFrame (frame 0x01 0 0 [1]) = .timerOnly 0x01 ∧
    (((up0 world).heads.get 0).link = .up ∧ 1 = ((up0 world).heads.get 0).incarnation ∧
      65535 ≠ ((up0 world).heads.get 0).incarnation ∧ ((up0 world).heads.get 0).detect.isSome = true) ∧
    ((world.heads.get 0).link ≠ .up ∧ (world.heads.get 0).detect = none) := by decide +kernel

theorem witness_NoticesRead :
    (∀ n ∈ [0, 1, 8, 9, 255], readHeadFrame (frame 0x04 1 1 [BitVec.ofNat 8 n]) = .noticeRead 1 1 n ∧
      readManagementBytes (frame 0x04 0 1 [BitVec.ofNat 8 n]) = .noticeRead 1 n) ∧
    readHeadFrame (frame 0x04 2 1 [1]) = .noticeRead 2 1 1 ∧ (up0 world).part = .running ∧
    ((up0 world).heads.get 0).link = .up ∧ 1 = ((up0 world).heads.get 0).incarnation ∧
    2 ≠ ((up0 world).heads.get 0).incarnation ∧ (world.heads.get 0).link = .down ∧
    (∀ l ∈ [LinkState.down, .lost], l ≠ .up) := by decide +kernel

/-- Head 0 UP with `n` requests waiting, of other tags. -/
def queued (n : Nat) : State :=
  modifyHead 0 (fun H => { H with requests := List.replicate n ⟨1, 2, .queryVolume 0⟩ }) (up0 world)

theorem witness_HeadRequestArrives :
    readHeadFrame (frame 0x18 1 1 [3]) = .request 0x18 1 1 (some (.queryVolume 3)) ∧
    readHeadFrame (frame 0x18 0 1 [3]) = .request 0x18 0 1 (some (.queryVolume 3)) ∧
    readHeadFrame (frame 0x19 1 1 []) = .request 0x19 1 1 none ∧ readHeadFrame (frame 0x18 1 1 []) = .request 0x18 1 1 none ∧
    ((queued 15).part = .running ∧ ((queued 15).heads.get 0).link = .up ∧ 1 = ((queued 15).heads.get 0).incarnation ∧
      0 ≠ ((queued 15).heads.get 0).incarnation ∧ 1 ∉ ((queued 15).heads.get 0).tags ∧
      ((queued 15).heads.get 0).requests.length < 16) ∧
    16 ≤ ((queued 16).heads.get 0).requests.length ∧
    1 ∈ ((askedUp (.queryVolume 0) world).heads.get 0).tags ∧
    (∀ l ∈ [LinkState.down, .lost], let s := modifyHead 0 (fun H => { H with link := l }) world;
      s.part = .running ∧ (s.heads.get 0).link ≠ .up) := by decide +kernel

/-- A reservation of extents 5 and 6 for account 1 on volume 0. -/
def held (st : SlotState) (deadline : Nat) : Slot := ⟨1, some ⟨st, 1, 0, [⟨5, 2⟩], 2, 0, deadline⟩⟩

/-- Slot 0 of head 0 OPEN with extents 5 and 6. -/
def reserving : State :=
  { slot0 (held .open_ 5) world with
    pool := { world.pool with free := 1022, zoneFree := world.pool.zoneFree.set 0 14,
                              extents := [(5, .reserved 0 1 0 0 1), (6, .reserved 0 1 0 0 1)] }
    clock := { world.clock with now := 5 } }

theorem witness_LossCleanupReturnsWork :
    let s := waits 0 .link (modifyHead 0 (fun H => { H with cleanup := some ⟨.detect, 7⟩ }) reserving)
    Granted s (0 : HeadId).val ∧ (s.heads.get 0).cleanup = some ⟨.detect, 7⟩ ∧ Rising s.pool.extents ∧
    ((slotOf s 0 0).reservation = (held .open_ 5).reservation ∧ 5 ∈ uncommitted ⟨.open_, 1, 0, [⟨5, 2⟩], 2, 0, 5⟩ ∧
      extentAt s.pool 5 = some (.reserved 0 1 0 0 1) ∧ isReserved (.reserved 0 1 0 0 1) = true) := by decide +kernel

theorem witness_HeadsSet :
    let r := fun (m : BitVec 4) (b : Bool) (z : Option Nat) => (⟨m, 8, b, true, true, z⟩ : HeadsRequest)
    (Takes (asked (.setHeads (r 0 false none)) world) .mgmt 1 (.setHeads (r 0 false none)) ∧ (r 0 false none).mask = 0) ∧
    (Takes (asked (.setHeads (r 1 false (some 64))) world) .mgmt 1 (.setHeads (r 1 false (some 64))) ∧ 63 < 64) ∧
    zoneCovers { world.pool with capacity := 1025 } 63 = 0 ∧
    (Takes (asked (.setHeads (r 5 true (some 63))) (up0 world)) .mgmt 1 (.setHeads (r 5 true (some 63))) ∧
      (r 5 true (some 63)).mask ≠ 0 ∧ zoneCovers (up0 world).pool 63 ≠ 0 ∧ (5#4).getLsbD 0 = true ∧ (5#4).getLsbD 1 = false ∧
      ((up0 world).heads.get 0).link = .up) := by decide +kernel

/-- Every second extent LIVE: a scan of at most eight runs of one extent. -/
def sparse : State :=
  { world with pool := { world.pool with free := 512, zoneFree := List.replicate 64 8,
                                         extents := (List.range 512).map fun i => (2 * i, .live 0 1 1 1) } }

theorem witness_ReserveRefused :
    (∀ q ∈ [(1, 0, 0, 1), (0, 0, 1, 1), (2, 0, 1, 1), (1, 63, 1, 1), (1, 0, 256, 101)],
      TakesUp (askedUp (.reserve q.1 q.2.1 q.2.2.1 q.2.2.2) world) 0 1 (.reserve q.1 q.2.1 q.2.2.1 q.2.2.2)) ∧
    account? world 0 = none ∧ account? world 2 = some (crew (some 10) 0) ∧
    account? world 1 = some (man p0 ⟨0, 0, 0, 0⟩) ∧ volume? world 63 = none ∧ (volume? world 0).isSome = true ∧
    (let s := modifyHead 0 (fun H => { H with slots := List.replicate 32 (held .open_ 5) }) (askedUp (.reserve 1 0 1 1) world);
      TakesUp s 0 1 (.reserve 1 0 1 1) ∧ ∀ k, k < 32 → (slotOf s 0 k).reservation = (held .open_ 5).reservation) ∧
    (slotOf world 0 31).reservation = none ∧
    headroomOf (ownHeadroom (man p0 ⟨0, 0, 0, 0⟩) p0) (groupHeadroom world p0) (some (poolHeadroom world p0)) <
      clampMinimum 256 101 ∧
    (TakesUp (askedUp (.reserve 1 0 100 9) sparse) 0 1 (.reserve 1 0 100 9) ∧ clampMinimum 100 9 ≤ 100 ∧
      (zoneScan sparse.pool (sparse.heads.get 0).zone (sparse.heads.get 0).position (min (clampWant 100) 100)).count <
        clampMinimum 100 9) ∧
    -- the refusal of a person of a group
    (let p := { p0 with parent := some 2 }
     let s := askedUp (.reserve 1 0 9 1) { world with accounts := [(1, man p ⟨0, 0, 0, 0⟩), (2, crew (some 0) 1)] }
     TakesUp s 0 1 (.reserve 1 0 9 1) ∧ account? s 1 = some (man p ⟨0, 0, 0, 0⟩) ∧ p.parent = some 2 ∧ p.parent ≠ some 1 ∧
      (volume? s 0).isSome = true ∧ (slotOf s 0 0).reservation = none ∧ (look s.accounts 2).isSome = true ∧
      headroomOf (ownHeadroom (man p ⟨0, 0, 0, 0⟩) p) (groupHeadroom s p) (some (poolHeadroom s p)) < clampMinimum 9 1) := by
  decide +kernel

theorem witness_ReserveGranted :
    (∀ n ∈ [1, 100, 65535], let s := askedUp (.reserve 1 0 n 1) world;
      TakesUp s 0 1 (.reserve 1 0 n 1) ∧ n ≠ 0 ∧ account? s 1 = some (man p0 ⟨0, 0, 0, 0⟩) ∧
      volume? s 0 = some (vol [snap 1 .live 1, snap 2 .live 0]) ∧ 0 = grantSlot s 0 ∧ 0 < (s.heads.get 0).slots.length ∧
      (slotOf s 0 0).reservation = none ∧ s.clock.now + s.settings.reservationHold ≤ clockMax ∧
      (let least := headroomOf (ownHeadroom (man p0 ⟨0, 0, 0, 0⟩) p0) (groupHeadroom s p0) (some (poolHeadroom s p0));
        clampMinimum n 1 ≤ least ∧
        clampMinimum n 1 ≤ (zoneScan s.pool (s.heads.get 0).zone (s.heads.get 0).position (min (clampWant n) least)).count) ∧
      p0.parent ≠ some 1) := by decide +kernel

/-- R45: the ends of the clamps; and a person of a group. -/
theorem witness_ReserveGranted_clamps :
    (256 < 257 ∧ clampWant 257 = 256 ∧ clampWant 256 = 256 ∧ clampWant 0 = 0) ∧
    (clampMinimum 5 0 = 1 ∧ clampMinimum 5 5 = 5 ∧ clampMinimum 5 6 = 5 ∧ clampMinimum 65535 300 = 256) ∧
    (let p := { p0 with parent := some 2 }
     let s := askedUp (.reserve 1 0 9 1) { world with accounts := [(1, man p ⟨0, 0, 0, 0⟩), (2, crew (some 10) 1)] }
     TakesUp s 0 1 (.reserve 1 0 9 1) ∧ account? s 1 = some (man p ⟨0, 0, 0, 0⟩) ∧ p.parent = some 2 ∧ p.parent ≠ some 1 ∧
      (look s.accounts 2).isSome = true ∧ clampMinimum 9 1 ≤ headroomOf (ownHeadroom (man p ⟨0, 0, 0, 0⟩) p) (groupHeadroom s p)
        (some (poolHeadroom s p))) := by decide +kernel

theorem witness_ReserveGranted_scan :
    (PoolCounted reserving ∧ 0 < 256) ∧ (slotOf reserving 0 31).reservation = none ∧
    (let s := modifyHead 0 (fun H => { H with slots := (List.replicate 32 (held .open_ 5)).set 31 (held .lapsed 5) }) world;
      (∀ j, j < 32 → (slotOf s 0 j).reservation ≠ none) ∧
      (slotOf s 0 31).reservation = some ⟨.lapsed, 1, 0, [⟨5, 2⟩], 2, 0, 5⟩ ∧ grantSlot s 0 = 31) := by
  unfold PoolCounted CursorWell; decide +kernel

theorem witness_CommitMakesLive :
    (∀ n ∈ [0, 1, 2, 65535], TakesUp (askedUp (.commit 0 1 n) reserving) 0 1 (.commit 0 1 n)) ∧
    ((slotOf reserving 0 0).reservation = some ⟨.open_, 1, 0, [⟨5, 2⟩], 2, 0, 5⟩ ∧ (slotOf reserving 0 0).generation = 1 ∧
      extentAt reserving.pool 5 = some (.reserved 0 1 0 0 1) ∧ look reserving.accounts 1 = some (man p0 ⟨0, 0, 0, 0⟩) ∧
      p0.parent ≠ some 1) ∧
    (TakesUp (askedUp (.commit 32 1 1) reserving) 0 1 (.commit 32 1 1) ∧ 31 < 32) ∧
    (TakesUp (askedUp (.commit 31 0 1) reserving) 0 1 (.commit 31 0 1) ∧ (slotOf reserving 0 31).reservation = none) ∧
    (TakesUp (askedUp (.commit 0 2 1) reserving) 0 1 (.commit 0 2 1) ∧ (slotOf reserving 0 0).generation ≠ 2) ∧
    (let s := slot0 (held .lapsed 5) world;
      TakesUp (askedUp (.commit 0 1 1) s) 0 1 (.commit 0 1 1) ∧ (slotOf s 0 0).generation = 1 ∧
      (slotOf s 0 0).reservation = some ⟨.lapsed, 1, 0, [⟨5, 2⟩], 2, 0, 5⟩) := by decide +kernel

/-- R14 to R17: the boundary cases of an append: the last free entry, a full ring with a DELTA pass on its oldest entry
and one on the next, and the renumbering with the channel in use and not. -/
theorem witness_CommitMakesLive_journal :
    let change := fun x => (⟨.birth, 0, x, 3, none⟩ : LifeChange)
    let on := fun (j : Journal) (cursor : Nat) => chan0
      { Channel.reset with state := .streaming, pass := some ⟨1, 0, 1, 2, .delta, .body, cursor, 0, none, 0, 0, .none, 1, false⟩ }
      { world with journal := j }
    ((runsOf (List.range 256 |>.map fun i => some (change i))).map (·.count) = [256] ∧
      (change 256).extent = (change 255).extent + 1) ∧
    (4194303 < 281474976710656 ∧ (on ⟨[], 4194303, 0⟩ 0).journal.append - (on ⟨[], 4194303, 0⟩ 0).journal.oldest < 4194304) ∧
    (4194304 ≤ (on ⟨[], 4194304, 0⟩ 0).journal.append ∧
      ∃ p, ((on ⟨[], 4194304, 0⟩ 0).channels.get 0).pass = some p ∧ p.mode = .delta ∧ p.cursor = 0 ∧ p.volume = 0) ∧
    (∃ p, ((on ⟨[], 4194304, 0⟩ 1).channels.get 0).pass = some p ∧ p.cursor ≠ 0) ∧
    (281474976710656 ≤ (on ⟨[], 281474976710656, 281474972516352⟩ 0).journal.append ∧
      ((on ⟨[], 281474976710656, 281474972516352⟩ 0).channels.get 0).state ≠ .idle ∧
      ((on ⟨[], 281474976710656, 281474972516352⟩ 0).channels.get 1).state = .idle) := by
  refine ⟨by decide +kernel, by decide +kernel, ⟨by decide +kernel, _, rfl, by decide⟩, ⟨_, rfl, by decide⟩,
    by decide +kernel⟩

theorem witness_ReturnFreesRemainder :
    (TakesUp (askedUp (.returnSlot 0 1) reserving) 0 1 (.returnSlot 0 1) ∧ Rising reserving.pool.extents ∧
      (slotOf reserving 0 0).reservation = some ⟨.open_, 1, 0, [⟨5, 2⟩], 2, 0, 5⟩ ∧ (slotOf reserving 0 0).generation = 1 ∧
      6 ∈ uncommitted ⟨.open_, 1, 0, [⟨5, 2⟩], 2, 0, 5⟩ ∧ extentAt reserving.pool 6 = some (.reserved 0 1 0 0 1) ∧
      isReserved (.reserved 0 1 0 0 1) = true) ∧
    (TakesUp (askedUp (.returnSlot 31 0) world) 0 1 (.returnSlot 31 0) ∧ (slotOf world 0 31).reservation = none) ∧
    (TakesUp (askedUp (.returnSlot 32 0) world) 0 1 (.returnSlot 32 0) ∧ 31 < 32) ∧
    (TakesUp (askedUp (.returnSlot 0 2) reserving) 0 1 (.returnSlot 0 2) ∧ (slotOf reserving 0 0).generation ≠ 2) ∧
    (let s := slot0 (held .lapsed 5) world;
      TakesUp (askedUp (.returnSlot 0 1) s) 0 1 (.returnSlot 0 1) ∧ (slotOf s 0 0).generation = 1 ∧
      (slotOf s 0 0).reservation = some ⟨.lapsed, 1, 0, [⟨5, 2⟩], 2, 0, 5⟩) := by decide +kernel

/-- The clock set at the opening of the window, which is still CLOSED. -/
def opening : State := { world with clock := ⟨3600, true, .closed, some 3600, false⟩ }

theorem slot_beyond {s : State} {h : HeadId} {k : Nat} (hl : (s.heads.get h).slots.length = 32) (hk : ¬ k < 32) :
    (slotOf s h k).reservation = none := by
  rw [slotOf, List.getD_eq_default _ _ (by omega)]; rfl

/-- Slot 0 of head 0 is the one OPEN slot of a state with the heads of `reserving`. -/
theorem open_reserving {s : State} {h : HeadId} {k : Nat} {r : Reservation} (hh : s.heads = reserving.heads)
    (ho : OpenSlot s h k r) : h = 0 ∧ k = 0 ∧ r.deadline = 5 := by
  have look : ∀ h : HeadId, ∀ k < 32, (h = 0 ∧ k = 0) ∨ (slotOf reserving h k).reservation = none := by decide +kernel
  have e : slotOf s h k = slotOf reserving h k := by unfold slotOf; rw [hh]
  have ho := ho.1
  rw [e] at ho
  by_cases hk : k < 32
  · rcases look h k hk with ⟨rfl, rfl⟩ | hn
    · have : (slotOf reserving 0 0).reservation = (held .open_ 5).reservation := by decide +kernel
      rw [this] at ho; cases ho; exact ⟨rfl, rfl, rfl⟩
    · rw [hn] at ho; cases ho
  · rw [slot_beyond ((by decide +kernel : ∀ h : HeadId, (reserving.heads.get h).slots.length = 32) h) hk] at ho; cases ho

/-- With the clock at its deadline, the reservation of `reserving` is due. -/
theorem due_reserving {s : State} (hh : s.heads = reserving.heads) (hc : s.clock.now = 5) : DueAt s 5 (.lapse 0 0 1) := by
  have e : slotOf s 0 0 = slotOf reserving 0 0 := by unfold slotOf; rw [hh]
  refine ⟨⟨.open_, 1, 0, [⟨5, 2⟩], 2, 0, 5⟩, ⟨?_, rfl⟩, ?_, rfl, by rw [hc], ?_⟩
  · rw [e]; decide +kernel
  · rw [e]; decide +kernel
  · intro i j q ho
    obtain ⟨rfl, rfl, hd⟩ := open_reserving hh ho
    exact .inr ⟨hd.symm, .inr ⟨rfl, Nat.le_refl _⟩⟩

/-- A state with the heads of `world` has no reservation. -/
theorem slots_world {s : State} {h : HeadId} {k : Nat} (hh : s.heads = world.heads) : (slotOf s h k).reservation = none := by
  have e : slotOf s h k = slotOf world h k := by unfold slotOf; rw [hh]
  rw [e]
  by_cases hk : k < 32
  · exact (by decide +kernel : ∀ h : HeadId, ∀ k < 32, (slotOf world h k).reservation = none) h k hk
  · exact slot_beyond ((by decide +kernel : ∀ h : HeadId, (world.heads.get h).slots.length = 32) h) hk

/-- Account 1 OVER_SOFT with its deadline reached. -/
def graceDue : State :=
  { world with clock := ⟨5, true, .closed, none, false⟩, accounts := [(1, man { p0 with quota := .overSoft 5 } ⟨0, 0, 0, 0⟩)] }

/-- A reservation of account 1, which stands within its limits, past its deadline. -/
def lapseDue : State := { reserving with accounts := [(1, man p0 ⟨0, 0, 0, 0⟩)] }

theorem account_graceDue {n : Nat} {a : Account} (h : look graceDue.accounts n = some a) :
    n = 1 ∧ a = man { p0 with quota := .overSoft 5 } ⟨0, 0, 0, 0⟩ := by
  have h := mem_keys_of_look h
  simpa [graceDue] using h

theorem witness_DueWorkPresented :
    (lapseDue.part = .running ∧ look lapseDue.arb.waiting 8 = none ∧ Rising lapseDue.accounts ∧ DueAt lapseDue 5 (.lapse 0 0 1) ∧
      ∀ e v, DueAt lapseDue e v → 5 ≤ e) ∧
    (graceDue.part = .running ∧ look graceDue.arb.waiting 8 = none ∧ Rising graceDue.accounts ∧ DueAt graceDue 5 (.grace 1) ∧
      ∀ e v, DueAt graceDue e v → 5 ≤ e) ∧
    (opening.part = .running ∧ look opening.arb.waiting 8 = none ∧ Rising opening.accounts ∧ DueAt opening 3600 .window ∧
      ∀ e v, DueAt opening e v → 3600 ≤ e) := by
  refine ⟨⟨rfl, rfl, by decide +kernel, due_reserving rfl rfl, ?_⟩, ⟨rfl, rfl, by decide +kernel, ?_, ?_⟩,
    ⟨rfl, rfl, by decide +kernel, ⟨rfl, by decide +kernel, rfl⟩, ?_⟩⟩
  · intro e v hd
    cases v with
    | window => exact absurd hd.1 (by decide +kernel)
    | grace n => exact absurd hd.1 (by decide +kernel)
    | lapse h k g =>
      obtain ⟨r, ho, _, rfl, _⟩ := hd
      rw [(open_reserving (s := lapseDue) rfl ho).2.2]
  · refine ⟨rfl, rfl, ⟨_, _, rfl, rfl, rfl⟩, Nat.le_refl _, ?_⟩
    rintro m e ⟨a, p, hl, hb, hq⟩
    obtain ⟨rfl, rfl⟩ := account_graceDue hl
    cases hb; cases hq; exact .inr ⟨rfl, Nat.le_refl _⟩
  · intro e v hd
    cases v with
    | window => exact absurd hd.2.1 (by decide +kernel)
    | grace n =>
      obtain ⟨_, _, ⟨a, p, hl, hb, hq⟩, _⟩ := hd
      obtain ⟨rfl, rfl⟩ := account_graceDue hl
      cases hb; cases hq; exact Nat.le_refl _
    | lapse h k g => obtain ⟨r, ho, _⟩ := hd; have ho := ho.1; rw [slots_world (s := graceDue) rfl] at ho; cases ho
  · intro e v hd
    cases v with
    | window => exact le_of_eq (Option.some.inj hd.2.2)
    | grace n =>
      obtain ⟨_, _, ⟨a, p, hl, hb, hq⟩, _⟩ := hd
      have h := mem_keys_of_look hl
      simp only [opening, world, List.mem_cons, List.not_mem_nil, or_false, Prod.mk.injEq] at h
      rcases h with ⟨_, rfl⟩ | ⟨_, rfl⟩
      · cases hb; cases hq
      · cases hb
    | lapse h k g => obtain ⟨r, ho, _⟩ := hd; have ho := ho.1; rw [slots_world (s := opening) rfl] at ho; cases ho

/-- No work is due: one value before each deadline, with the grace hold on, the clock unset, and CK waiting already. -/
theorem witness_DueWorkPresented_none :
    let early : State := { reserving with clock := { reserving.clock with now := 4 } }
    let before : State := { graceDue with clock := { graceDue.clock with now := 4 } }
    (early.part = .running ∧ Rising early.accounts ∧ ∀ h k r, OpenSlot early h k r → early.clock.now < r.deadline) ∧
    (reserving.clock.isSet = false ∧
      { graceDue with settings := { graceDue.settings with graceHold := true } }.settings.graceHold = true ∧
      ∀ n d, OverSoftAt before n d → before.clock.now < d) ∧
    world.given = world.clock.window ∧ look (waits 8 (.ck .window) opening).arb.waiting 8 ≠ none := by
  refine ⟨⟨rfl, by decide +kernel, ?_⟩, ⟨rfl, rfl, ?_⟩, by decide +kernel, by decide +kernel⟩
  · intro h k r ho
    rw [(open_reserving (s := { reserving with clock := { reserving.clock with now := 4 } }) rfl ho).2.2]
    decide +kernel
  · rintro n d ⟨a, p, hl, hb, hq⟩
    obtain ⟨rfl, rfl⟩ := account_graceDue hl
    cases hb; cases hq; decide +kernel

theorem witness_ReservationLapses :
    let s := waits 8 (.ck (.lapse 0 0 1)) (up0 reserving)
    (Granted s 8 ∧ look s.arb.waiting 8 = some ⟨.update, 0, .ck (.lapse 0 0 1)⟩ ∧ Rising s.pool.extents ∧
      (slotOf s 0 0).reservation = some ⟨.open_, 1, 0, [⟨5, 2⟩], 2, 0, 5⟩ ∧ (slotOf s 0 0).generation = 1 ∧ 5 ≤ s.clock.now ∧
      0 < (s.heads.get 0).slots.length ∧
      (s.heads.get 0).link = .up) ∧
    (slot0 (held .open_ 6) reserving).clock.now < 6 ∧
    ((waits 8 (.ck (.lapse 0 0 1)) reserving).heads.get 0).link ≠ .up ∧
    (Granted (waits 8 (.ck (.lapse 0 0 2)) reserving) 8 ∧ (slotOf reserving 0 0).generation ≠ 2) := by decide +kernel

/-- Extent 5 LIVE since epoch 2, extent 6 since epoch 3, of account 1 on volume 0; extent 7 RETAINED at the chain. -/
def stored : State :=
  { world with
    pool := { world.pool with free := 1021, zoneFree := world.pool.zoneFree.set 0 13,
                              extents := [(5, .live 0 1 2 2), (6, .live 0 1 3 3), (7, .retained 0 1 1 1 3 none none)] }
    accounts := [(1, man p0 ⟨2, 0, 0, 1⟩), (2, crew (some 10) 0)]
    volumes := [(0, { vol [snap 1 .live 1, snap 2 .live 0] with held := 3, chainHead := some 7, chainTail := some 7,
                                                                chainCount := 1 })] }

/-- The volume record of `stored`. -/
def storedVol : Volume :=
  { vol [snap 1 .live 1, snap 2 .live 0] with held := 3, chainHead := some 7, chainTail := some 7, chainCount := 1 }

/-- In a state with the extents of `stored`, extent 7 is the retention chain of volume 0. -/
theorem chain_stored (s : State) (V : Volume) (hx : s.pool.extents = stored.pool.extents) (hV : V.openEpoch = 3)
    (ends : V.chainHead = some 7 ∧ V.chainTail = some 7 ∧ V.chainCount = 1) : ChainOf s 0 V [7] := by
  refine ⟨ends, by decide, ?_, ?_, ?_⟩
  · intro i x h
    match i, h with
    | 0, h => cases h; exact ⟨1, 1, 1, 3, by rw [hV], by rw [hx]; rfl⟩
    | i + 1, h => simp at h
  · intro x o b sh d p q h
    have h := mem_keys_of_look h
    simp only [hx, stored, List.mem_cons, List.not_mem_nil, or_false, Prod.mk.injEq] at h
    rcases h with ⟨_, h⟩ | ⟨_, h⟩ | ⟨rfl, _⟩
    · cases h
    · cases h
    · simp
  · intro i j x y ox bx sx dx oy by_ sy dy px qx py qy _ hi hj h1 h2
    have e : x = y := by
      match i, j, hi, hj with
      | 0, 0, hi, hj => cases hi; cases hj; rfl
      | 0, j + 1, _, hj => simp at hj
      | i + 1, _, hi, _ => simp at hi
    subst e; rw [h1] at h2; cases h2; exact Nat.le_refl _

theorem extents_stored {p : Pool} (hp : p.extents = stored.pool.extents) {x : Nat} {e : Extent}
    (h : look p.extents x = some e) :
    (x = 5 ∧ e = .live 0 1 2 2) ∨ (x = 6 ∧ e = .live 0 1 3 3) ∨ (x = 7 ∧ e = .retained 0 1 1 1 3 none none) := by
  have h := mem_keys_of_look h
  simpa [hp, stored] using h

/-- A state with the extents of `stored` and one volume that counts them has every record true. -/
theorem chainsWell_stored (s : State) (V : Volume) (hp : s.pool.extents = stored.pool.extents) (hv : s.volumes = [(0, V)])
    (tables : TablesCanonical s) (counted : PoolCounted s)
    (hV : V.openEpoch = 3 ∧ V.held = 3 ∧ V.chainHead = some 7 ∧ V.chainTail = some 7 ∧ V.chainCount = 1)
    (catalogue : (V.catalogue.map (·.epoch)).Pairwise (· < ·) ∧
      ∀ p ∈ V.catalogue, p.epoch < 3 ∧ (p.state = .expiring → p.pins = 0 ∧ p.expirePending = false))
    (holder : ∃ z ∈ V.catalogue, 1 ≤ z.epoch ∧ z.epoch < 3)
    (queue : s.epu.expiryQueue.Nodup ∧ ∀ q ∈ s.epu.expiryQueue, ∃ V p,
      look s.volumes q.1 = some V ∧ p ∈ V.catalogue ∧ p.epoch = q.2 ∧ p.state = .expiring)
    (walk : ∀ k, s.epu.walk = some k → s.epu.expiryQueue.head? = some (k.volume, k.epoch))
    (walked : ∀ k, s.epu.walk = some k → k.volume = 0 → WalkWell s V k [7]) : ChainsWell s := by
  have only : ∀ {v W}, look s.volumes v = some W → v = 0 ∧ W = V := by
    intro v W h; have h := mem_keys_of_look h; simpa [hv] using h
  have at0 : look s.volumes 0 = some V := by rw [hv]; rfl
  refine ⟨tables, counted, ?_, ?_, ?_, queue, walk, ?_⟩
  · intro x e h
    rcases extents_stored hp h with ⟨_, rfl⟩ | ⟨_, rfl⟩ | ⟨_, rfl⟩ <;> exact ⟨V, at0⟩
  · intro v W h; obtain ⟨rfl, rfl⟩ := only h; rw [heldCount, hp, hV.2.1]; rfl
  · intro v W h; obtain ⟨rfl, rfl⟩ := only h; rw [hV.1]; exact catalogue
  · intro v W h
    obtain ⟨rfl, rfl⟩ := only h
    refine ⟨[7], chain_stored _ _ hp hV.1 hV.2.2, ?_, walked⟩
    intro x hx v o b sh d p q hl
    rw [List.mem_singleton.mp hx] at hl
    rcases extents_stored hp hl with ⟨h, _⟩ | ⟨h, _⟩ | ⟨_, h⟩
    · cases h
    · cases h
    · cases h; obtain ⟨z, hz, h1, h2⟩ := holder; exact ⟨z, hz, h1, h2, by simp⟩

theorem witness_ReleaseRetainsOrFrees :
    ((storedVol.catalogue.map (·.epoch)).Pairwise (· < ·) ∧ retains storedVol 2 = true ∧ retains storedVol 3 = false) ∧
    (TakesUp (askedUp (.release 1 0 [5, 6, 7, 5]) stored) 0 1 (.release 1 0 [5, 6, 7, 5]) ∧ Rising stored.pool.extents ∧
      account? stored 1 = some (man p0 ⟨2, 0, 0, 1⟩) ∧ volume? stored 0 = some storedVol ∧
      extentAt stored.pool 5 = some (.live 0 1 2 2) ∧ p0.parent ≠ some 1 ∧
      (List.range 4).map (goodPlace stored 1 0 [5, 6, 7, 5]) = [some (5, 2, 2), some (6, 3, 3), none, none]) ∧
    ChainOf (askedUp (.release 1 0 [5, 6, 7, 5]) stored) 0 storedVol [7] ∧
    (TakesUp (askedUp (.release 1 0 (List.replicate 64 7)) stored) 0 1 (.release 1 0 (List.replicate 64 7)) ∧
      (List.range 64).filterMap (goodPlace stored 1 0 (List.replicate 64 7)) = []) ∧
    (let p := { p0 with parent := some 2 }
     let s : State := { stored with accounts := [(1, man p ⟨2, 0, 0, 1⟩), (2, crew (some 10) 1), (3, man p ⟨0, 0, 0, 0⟩)] }
     TakesUp (askedUp (.release 1 0 [5]) s) 0 1 (.release 1 0 [5]) ∧ account? s 1 = some (man p ⟨2, 0, 0, 1⟩) ∧
      p.parent = some 2 ∧ p.parent ≠ some 1 ∧ (List.range 1).filterMap (goodPlace s 1 0 [5]) ≠ []) ∧
    (∀ l ∈ [[], List.replicate 65 5], TakesUp (askedUp (.release 1 0 l) stored) 0 1 (.release 1 0 l)) ∧
    (∀ q ∈ [(0, 0), (2, 0), (1, 63)], TakesUp (askedUp (.release q.1 q.2 [5]) stored) 0 1 (.release q.1 q.2 [5])) ∧
    account? stored 0 = none ∧ account? stored 2 = some (crew (some 10) 0) ∧ volume? stored 63 = none :=
  ⟨by decide +kernel, by decide +kernel, chain_stored _ _ rfl rfl ⟨rfl, rfl, rfl⟩, by decide +kernel, by decide +kernel,
    by decide +kernel, by decide +kernel, by decide +kernel⟩

/-- The settings of a person with the hard limit given. -/
def limits (hard : Option Nat) : AccountSettings := ⟨hard, some 40, 600, 50, false⟩

theorem witness_AccountCreated :
    let T := fun (n : Nat) (k : AccountKind) (x : AccountSettings) (g : Option Nat) =>
      Takes (asked (.createAccount n k x g) world) .mgmt 1 (.createAccount n k x g)
    T 0 .group (limits none) none ∧ T 3 .person (limits none) none ∧ T 1 .group (limits none) none ∧
    look world.accounts 1 ≠ none ∧ (T 65535 .group (limits none) none ∧ look world.accounts 65535 = none ∧
      groupCount world < 4096) ∧
    (T 3 .person (limits (some 5)) (some 9) ∧ account? world 9 = none) ∧
    (T 3 .person (limits (some 5)) (some 1) ∧ account? world 1 = some (man p0 ⟨0, 0, 0, 0⟩)) ∧
    (T 3 .person (limits (some 5)) (some 2) ∧ isGroup world 2 = true) ∧
    (let s : State := { world with accounts := (List.range 4096).map fun i => (i + 1, crew none 0) };
      4096 ≤ groupCount s ∧ look s.accounts 4097 = none ∧
      Takes (asked (.createAccount 4097 .group (limits none) none) s) .mgmt 1 (.createAccount 4097 .group (limits none) none)) := by
  decide +kernel

theorem witness_LimitsSet :
    let T := fun (n : Nat) (x : AccountSettings) => Takes (asked (.setLimits n x) world) .mgmt 1 (.setLimits n x)
    (T 9 (limits none) ∧ account? world 9 = none) ∧ (T 2 (limits none) ∧ account? world 2 = some (crew (some 10) 0)) ∧
    (T 1 (limits (some 134217729)) ∧ account? world 1 = some (man p0 ⟨0, 0, 0, 0⟩)) ∧
    (T 1 (limits none) ∧ (limits none).hard = none) ∧
    (T 1 ⟨some 100, some 50, 600, 50, false⟩ ∧ p0.hard = 100 ∧ p0.soft = some 50) := by decide +kernel

theorem witness_ParentSet :
    let T := fun (n : Nat) (g : Option Nat) => Takes (asked (.setParent n g) world) .mgmt 1 (.setParent n g)
    (T 9 none ∧ account? world 9 = none) ∧ (T 1 (some 9) ∧ account? world 9 = none) ∧
    (T 2 none ∧ account? world 2 = some (crew (some 10) 0)) ∧ (T 1 (some 1) ∧ account? world 1 = some (man p0 ⟨0, 0, 0, 0⟩)) ∧
    (T 1 (some 2) ∧ isGroup world 2 = true ∧ p0.parent ≠ some 2 ∧ p0.parent ≠ some 1) ∧ (T 1 none ∧ p0.parent = none) := by
  decide +kernel

/-- A restore context of the management link. -/
def ctx (stage : Stage) (places : List Place) : Context :=
  ⟨0, .mgmt, 5, 1, none, 0, 2, .allOrNone, places, stage, 0, 0, 0, none, false⟩

theorem witness_AccountDeleted :
    let T := fun (n : Nat) (s : State) => Takes (asked (.deleteAccount n) s) .mgmt 1 (.deleteAccount n)
    (T 9 world ∧ account? world 9 = none) ∧ (T 1 stored ∧ account? stored 1 = some (man p0 ⟨2, 0, 0, 1⟩) ∧ 0 < 2) ∧
    (let s : State := { world with rsq := ⟨[ctx .verify []], none⟩ };
      T 1 s ∧ account? s 1 = some (man p0 ⟨0, 0, 0, 0⟩) ∧ ∃ c ∈ s.rsq.contexts, c.target = 1) ∧
    (let s : State := { world with accounts := [(2, crew none 1)] }; T 2 s ∧ account? s 2 = some (crew none 1)) ∧
    (T 1 world ∧ account? world 1 = some (man p0 ⟨0, 0, 0, 0⟩) ∧ (∀ c ∈ world.rsq.contexts, c.target ≠ 1) ∧
      Rising world.accounts) ∧ (T 2 world ∧ account? world 2 = some (crew (some 10) 0)) := by decide +kernel

/-- An OVER_SOFT account with deadline 700,000. -/
def softOver : Account := man { p0 with quota := .overSoft 700000 } ⟨60, 0, 0, 0⟩

theorem witness_GraceHoldAndLapse :
    let on : State := { timed with settings := { timed.settings with graceHold := true, graceStart := 100000 } }
    let due := fun (now : Nat) => waits 8 (.ck (.grace 1)) { timed with clock := { timed.clock with now := now } }
    (Takes (asked (.setGraceHold true) timed) .mgmt 1 (.setGraceHold true) ∧ timed.settings.graceHold = false) ∧
    Takes (asked (.setGraceHold false) timed) .mgmt 1 (.setGraceHold false) ∧
    (Takes (asked (.setGraceHold false) on) .mgmt 1 (.setGraceHold false) ∧ on.settings.graceHold = true ∧
      look on.accounts 1 = some softOver ∧ 700000 + (on.clock.now - on.settings.graceStart) ≤ clockMax ∧
      look on.accounts 2 = some (crew (some 10) 0)) ∧
    (Granted (due 700000) 8 ∧ look (due 700000).arb.waiting 8 = some ⟨.update, 0, .ck (.grace 1)⟩ ∧
      look (due 700000).accounts 1 = some softOver ∧ 700000 ≤ (due 700000).clock.now ∧
      (due 700000).settings.graceHold = false) ∧
    (look (due 700000).accounts 1 = some softOver ∧
      { due 700000 with settings := { timed.settings with graceHold := true } }.settings.graceHold = true) ∧
    (Granted (due 699999) 8 ∧ (due 699999).clock.now < 700000) := by decide +kernel

theorem witness_VolumesAdministered :
    let x := fun (keep c : Nat) => (⟨keep, 60, false, c⟩ : VolumeRequest)
    let C := fun (v : Nat) (r : VolumeRequest) => Takes (asked (.createVolume v r) world) .mgmt 1 (.createVolume v r)
    let S := fun (v : Nat) (r : VolumeRequest) (s : State) => Takes (asked (.setVolume v r) s) .mgmt 1 (.setVolume v r)
    let D := fun (v : Nat) (s : State) => Takes (asked (.deleteVolume v) s) .mgmt 1 (.deleteVolume v)
    (C 64 (x 1 0) ∧ C 0 (x 1 4)) ∧ (C 0 (x 1 3) ∧ (volume? world 0).isSome = true) ∧
    (C 63 (x 65 3) ∧ four? 3 = some 3 ∧ volume? world 63 = none) ∧
    S 63 (x 1 0) world ∧ S 0 (x 1 4) world ∧
    (let s := chan0 { Channel.reset with passQueue := [(0, 2)] } world;
      S 0 (x 1 1) s ∧ inDuplication s 0 = true ∧ D 0 s) ∧
    D 63 world ∧ (D 0 world ∧ inDuplication world 0 = false ∧ (∀ e ∈ world.epu.sealQueue, e.volume ≠ 0)) ∧
    (let s : State := { world with epu := { world.epu with sealQueue := [⟨0, 1, []⟩] } };
      D 0 s ∧ ∃ e ∈ s.epu.sealQueue, e.volume = 0) ∧
    (let s : State := { world with volumes := [(0, vol [])] };
      D 0 s ∧ volume? s 0 = some (vol []) ∧ (vol []).held = 0 ∧ (vol []).catalogue = []) := by decide +kernel

theorem witness_VolumesAdministered_rotation :
    let V := vol [snap 1 .live 1, snap 2 .live 0]
    (∀ n ∈ [1, 2, 64, 65], Takes (asked (.setVolume 0 ⟨n, 60, false, 0⟩) world) .mgmt 1 (.setVolume 0 ⟨n, 60, false, 0⟩)) ∧
    (volume? world 0 = some V ∧ inDuplication world 0 = false ∧ four? 0 = some 0 ∧ V.channel = 0 ∧ V.keep = 64 ∧
      EpochsDistinct V ∧ rotationVictims { V with keep := 1 } = [2]) := by decide +kernel

/-- The part with a seal-queue entry of volume 0 with `n` waiters, and an eligible volume. -/
def sealing (n : Nat) (s : State) : State :=
  { s with epu := { s.epu with sealQueue := [⟨0, 9, List.replicate n (.mgmt 2)⟩] } }

theorem witness_SealRequested :
    let T := fun (v : Nat) (s : State) => Takes (asked (.seal v 9) s) .mgmt 1 (.seal v 9)
    let U := fun (v : Nat) (s : State) => TakesUp (askedUp (.seal v 9) s) 0 1 (.seal v 9)
    (T 63 world ∧ U 63 world ∧ volume? world 63 = none) ∧
    (T 0 world ∧ U 0 world ∧ (volume? world 0).isSome = true ∧ (∀ e ∈ world.epu.sealQueue, e.volume ≠ 0)) ∧
    (T 0 (sealing 8 world) ∧ U 0 (sealing 8 world) ∧
      sealEntry? (sealing 8 world) 0 = some ⟨0, 9, List.replicate 8 (.mgmt 2)⟩) ∧
    (T 0 (sealing 7 world) ∧ U 0 (sealing 7 world) ∧
      sealEntry? (sealing 7 world) 0 = some ⟨0, 9, List.replicate 7 (.mgmt 2)⟩) := by decide +kernel

theorem witness_SealTaken :
    let s := waits 6 (.sn .sealOp) (sealing 8 world)
    let full : State := { s with volumes := [(0, vol (List.replicate 64 (snap 1 .live 0)))] }
    let last : State := { s with volumes := [(0, { vol [] with openEpoch := 4294967295 })] }
    let before : State := { s with volumes := [(0, { vol (List.replicate 63 (snap 1 .live 0)) with openEpoch := 4294967294 })] }
    (Granted s 6 ∧ look s.arb.waiting 6 = some ⟨.update, 0, .sn .sealOp⟩ ∧
      s.epu.sealQueue.find? (sealEligible s) = some ⟨0, 9, List.replicate 8 (.mgmt 2)⟩) ∧
    (full.epu.sealQueue.find? (sealEligible full)).isSome = true ∧
    (last.epu.sealQueue.find? (sealEligible last)).isSome = true ∧ maxEpoch ≤ 4294967295 ∧
    ((before.epu.sealQueue.find? (sealEligible before)).isSome = true ∧ 63 < 64 ∧ 4294967294 < maxEpoch) ∧
    (let e := waits 6 (.sn .sealOp) world; Granted e 6 ∧ e.epu.sealQueue.find? (sealEligible e) = none) := by decide +kernel

/-- R71, R72: a volume and the pool one second before and at their spacing, never sealed, and pool spacing 0. -/
theorem witness_SealTaken_eligible :
    let e : SealEntry := ⟨0, 9, []⟩
    let s := fun (now spacing : Nat) (last pool : Option Nat) => ({ world with
      clock := { world.clock with now := now }, settings := { world.settings with poolSpacing := spacing, poolLastSeal := pool }
      volumes := [(0, { vol [] with lastSeal := last })] } : State)
    (sealEligible (s 159 10 (some 100) none) e = false ∧ sealEligible (s 160 10 (some 100) none) e = true) ∧
    (sealEligible (s 109 10 none (some 100)) e = false ∧ sealEligible (s 110 10 none (some 100)) e = true) ∧
    (sealEligible (s 0 10 none none) e = true ∧ sealEligible (s 0 0 none (some 100)) e = true) ∧
    sealEligible (s 0 0 none none) ⟨63, 9, []⟩ = false := by decide +kernel

theorem witness_SealTaken_nightly :
    let ws : List Waiter := [.head 0 1 4, .mgmt 2, .nightly]
    let at_ := fun (V : Volume) (q : List (Nat × Nat)) => ({ waits 6 (.sn .sealOp) (chan0 { world.channels.get 0 with passQueue := q }
      (up0 world)) with volumes := [(0, V)], epu := { world.epu with sealQueue := [⟨0, 9, ws⟩] } } : State)
    let V := vol [snap 1 .live 1, snap 2 .live 0]
    let made : Volume := { V with catalogue := V.catalogue ++ [⟨3, 0, 9, .live, 0, false, 0⟩], openEpoch := 4, lastSeal := some 0 }
    (∀ q ∈ [[], [(0, 3)], [(0, 2)]], Granted (at_ V q) 6 ∧ look (at_ V q).arb.waiting 6 = some ⟨.update, 0, .sn .sealOp⟩ ∧
      (at_ V q).epu.sealQueue.find? (sealEligible (at_ V q)) = some ⟨0, 9, ws⟩ ∧ volume? (at_ V q) 0 = some V ∧
      V.catalogue.length < 64 ∧ V.openEpoch < maxEpoch ∧ EpochsDistinct made ∧ .nightly ∈ ws) ∧
    queuedTarget [] 0 = none ∧ queuedTarget [(0, 3)] 0 = some 3 ∧ (queuedTarget [(0, 2)] 0 = some 2 ∧ 2 < V.openEpoch) ∧
    findSnapshot V 2 = some (snap 2 .live 0) ∧
    (.nightly ∉ [Waiter.mgmt 2] ∧ ((at_ V []).heads.get 0).link = .up ∧ ((at_ V []).heads.get 0).selectSealed = true ∧
      ((at_ V []).heads.get 1).link ≠ .up) := by decide +kernel

theorem witness_ExpireDecides :
    let T := fun (v e : Nat) (s : State) => Takes (asked (.expire v e) s) .mgmt 1 (.expire v e)
    (T 63 1 world ∧ volume? world 63 = none) ∧
    (T 0 3 world ∧ volume? world 0 = some (vol [snap 1 .live 1, snap 2 .live 0]) ∧
      findSnapshot (vol [snap 1 .live 1, snap 2 .live 0]) 3 = none) ∧
    (T 0 1 world ∧ findSnapshot (vol [snap 1 .live 1, snap 2 .live 0]) 1 = some (snap 1 .live 1) ∧ 0 < 1) ∧
    (T 0 2 world ∧ findSnapshot (vol [snap 1 .live 1, snap 2 .live 0]) 2 = some (snap 2 .live 0)) ∧
    (let s : State := { world with volumes := [(0, vol [snap 1 .expiring 0])] };
      T 0 1 s ∧ findSnapshot (vol [snap 1 .expiring 0]) 1 = some (snap 1 .expiring 0)) := by decide +kernel

theorem witness_WalkSteps :
    let V : Volume := { vol [snap 1 .expiring 0, snap 2 .live 0] with chainHead := some 7, chainTail := some 7, chainCount := 1 }
    let s := waits 6 (.sn .walkStep) { stored with volumes := [(0, V)], epu := { stored.epu with expiryQueue := [(0, 1)] } }
    let k : Walk := ⟨0, 1, some 7, some 7, false, 0, 0⟩
    let done : Walk := ⟨0, 1, none, none, true, 1, 0⟩
    let e := waits 6 (.sn .walkStep) { world with
      volumes := [(0, vol [snap 1 .expiring 0])], epu := { world.epu with expiryQueue := [(0, 1)] } }
    (Granted s 6 ∧ look s.arb.waiting 6 = some ⟨.update, 0, .sn .walkStep⟩ ∧ Rising s.pool.extents ∧ s.epu.expiryQueue ≠ [] ∧
      walkInHand s = some k ∧ volume? s 0 = some V ∧ s.epu.walk = none ∧
      (∀ x ∈ s.pool.extents.map Prod.fst, x < s.pool.capacity) ∧ (k.finished = true ↔ [7] = []) ∧
      k.position = [7].head? ∧ k.endMarker = [7].getLast?) ∧
    ChainOf s 0 V ([] ++ [7] ++ []) ∧
    (let f : State := { s with epu := { s.epu with walk := some done } };
      walkInHand f = some done ∧ (done.finished = true ↔ ([] : List Nat) = []) ∧ ChainOf f 0 V ([7] ++ [] ++ [])) ∧
    (Granted e 6 ∧ look e.arb.waiting 6 = some ⟨.update, 0, .sn .walkStep⟩ ∧ e.epu.walk = none ∧
      e.epu.expiryQueue = (0, 1) :: [] ∧ volume? e 0 = some (vol [snap 1 .expiring 0]) ∧
      (vol [snap 1 .expiring 0]).chainHead = none ∧ (vol [snap 1 .expiring 0]).chainTail = none) :=
  ⟨by decide +kernel, chain_stored _ _ rfl rfl ⟨rfl, rfl, rfl⟩,
    ⟨by decide +kernel, by decide +kernel, chain_stored _ _ rfl rfl ⟨rfl, rfl, rfl⟩⟩, by decide +kernel⟩

/-- 33 RETAINED extents in one chain, all held by snapshot 1 alone, which is EXPIRING: one step leaves one of them. -/
theorem test_walk_of_33 :
    let link := fun (i : Nat) => (Extent.retained 0 1 1 1 2 (if i = 0 then none else some (i - 1)) (if i = 32 then none else some (i + 1)))
    let s := waits 6 (.sn .walkStep) { world with
      pool := { world.pool with free := 991, extents := (List.range 33).map fun i => (i, link i) }
      volumes := [(0, { vol [snap 1 .expiring 0] with held := 33, chainHead := some 0, chainTail := some 32, chainCount := 33 })]
      epu := { world.epu with expiryQueue := [(0, 1)] } }
    ∃ t, exec .walkStep s = .next t ∧ t.pool.extents = [(32, .retained 0 1 1 1 2 none none)] ∧ t.pool.free = 1023 ∧
      t.epu.walk = some ⟨0, 1, some 32, some 32, false, 32, 32⟩ := ⟨_, rfl, by decide +kernel, by decide +kernel, by decide +kernel⟩

theorem witness_RestoreRequests_table :
    let q := fun (target : Nat) (src : Option Nat) (v e : Nat) => (⟨target, src, v, e, 0, [7]⟩ : RestoreRequest)
    (∀ r ∈ [q 9 none 0 2, q 2 none 0 2, q 1 (some 9) 0 2, q 1 (some 2) 0 2, q 1 none 63 2, q 1 none 0 3],
      Takes (asked (.restore r) stored) .mgmt 1 (.restore r) ∧ TakesUp (askedUp (.restore r) stored) 0 1 (.restore r) ∧
      r.extents ≠ [] ∧ r.extents.length ≤ 256 ∧ r.mode < 2) ∧
    account? stored 9 = none ∧ account? stored 2 = some (crew (some 10) 0) ∧ volume? stored 63 = none ∧
    findSnapshot storedVol 3 = none ∧ findSnapshot (vol [snap 1 .expiring 0]) 1 = some (snap 1 .expiring 0) := by
  decide +kernel

theorem witness_RestoreRequests :
    let q := fun (target : Nat) (src : Option Nat) (v e m n : Nat) => (⟨target, src, v, e, m, List.replicate n 7⟩ : RestoreRequest)
    let T := fun (r : RestoreRequest) (s : State) => Takes (asked (.restore r) s) .mgmt 1 (.restore r) ∧
      TakesUp (askedUp (.restore r) s) 0 1 (.restore r)
    (∀ r ∈ [q 1 none 0 2 0 0, q 1 none 0 2 0 257, q 1 none 0 2 2 1, q 1 none 0 2 255 1], T r stored) ∧
    (∀ r ∈ [q 1 none 0 2 0 1, q 1 none 0 2 1 256, q 1 (some 1) 0 2 0 1], T r stored ∧ r.extents ≠ [] ∧
      r.extents.length ≤ 256 ∧ r.mode < 2 ∧ (restoreMode r.mode).isSome = true) ∧
    (account? stored 1 = some (man p0 ⟨2, 0, 0, 1⟩) ∧
      (volume? stored 0).bind (fun V => findSnapshot V 2) = some (snap 2 .live 0) ∧ stored.rsq.contexts.length < 16) ∧
    (let s : State := { stored with rsq := ⟨List.replicate 16 (ctx .verify []), none⟩ };
      T (q 1 none 0 2 0 1) s ∧ 16 ≤ s.rsq.contexts.length) ∧
    (let s : State := { stored with rsq := ⟨[ctx .verify []], none⟩ };
      Takes (asked (.cancelRestore 5) s) .mgmt 1 (.cancelRestore 5) ∧ ∃ c ∈ s.rsq.contexts, c.tag = 5 ∧ c.submitter = .mgmt) ∧
    (let s : State := { stored with rsq := ⟨[{ ctx .verify [] with submitter := .head 0 1 }], none⟩ };
      TakesUp (askedUp (.cancelRestore 5) s) 0 1 (.cancelRestore 5) ∧
      ∃ c ∈ s.rsq.contexts, c.tag = 5 ∧ c.submitter = .head 0 ((askedUp (.cancelRestore 5) s).heads.get 0).incarnation) ∧
    (Takes (asked (.cancelRestore 5) stored) .mgmt 1 (.cancelRestore 5) ∧
      TakesUp (askedUp (.cancelRestore 5) stored) 0 1 (.cancelRestore 5) ∧ stored.rsq.contexts = []) := by decide +kernel

/-- A restore step waiting for the context given. -/
def restoring (c : Context) : State := waits 5 .restoreStep { stored with rsq := ⟨[c], none⟩ }

/-- R98: the service pointer at none, at each of three contexts, and at one that is gone; a list without contexts. -/
theorem witness_RestoreStages_service :
    let c := fun (n : Nat) => ({ ctx .verify [⟨7, .unclassified⟩] with id := n } : Context)
    let s := fun (p : Option Nat) => waits 5 .restoreStep { stored with rsq := ⟨[c 4, c 5, c 6], p⟩ }
    (∀ p ∈ [none, some 4, some 5, some 6, some 9], Granted (s p) 5 ∧
      look (s p).arb.waiting 5 = some ⟨.update, 0, .restoreStep⟩ ∧ ((s p).rsq.contexts.map (·.id)).Nodup) ∧
    ((s none).rsq.contexts = [] ++ c 4 :: [c 5, c 6] ∧ (s none).rsq.contexts = [c 4] ++ c 5 :: [c 6] ∧
      (s none).rsq.contexts = [c 4, c 5] ++ c 6 :: []) ∧
    (servedContext (s none) = some (c 4) ∧ servedContext (s (some 5)) = some (c 5) ∧ servedContext (s (some 6)) = some (c 6) ∧
      servedContext (s (some 9)) = some (c 4)) ∧
    (let e := waits 5 .restoreStep stored;
      Granted e 5 ∧ look e.arb.waiting 5 = some ⟨.update, 0, .restoreStep⟩ ∧ e.rsq.contexts = []) := by decide +kernel

/-- R99, R30, R102: an extent of each class, at the boundary epochs; the two limiting terms; places before and after the
last that is kept. -/
theorem witness_RestoreStages_terms :
    let at_ := fun (e : Nat) (source : Option Nat) (target : Nat) => { ctx .verify [] with epoch := e, source := source, target := target }
    let grouped : State := { stored with accounts := [(1, man { p0 with parent := some 2 } ⟨2, 0, 0, 1⟩), (2, crew (some 10) 1)] }
    let l : List Place := [⟨9, .notHeld⟩, ⟨7, .heldRetained⟩, ⟨5, .heldLive⟩, ⟨7, .heldRetained⟩]
    -- extent 5 was born in epoch 2, extent 7 born in 1 and dead in 3
    (classify stored (at_ 2 none 1) 5 = .heldLive ∧ classify stored (at_ 2 none 3) 5 = .inUse ∧
      classify stored (at_ 1 none 1) 5 = .notHeld) ∧
    (classify stored (at_ 1 none 1) 7 = .heldRetained ∧ classify stored (at_ 2 (some 1) 1) 7 = .heldRetained ∧
      classify stored (at_ 2 (some 2) 1) 7 = .notHeld ∧ classify stored (at_ 3 none 1) 7 = .notHeld ∧
      classify stored (at_ 0 none 1) 7 = .notHeld) ∧ classify stored (at_ 2 none 1) 8 = .notHeld ∧
    (account? stored 1 = some (man p0 ⟨2, 0, 0, 1⟩) ∧ chargeTerms stored 1 = (97, .ownLimit) ∧
      chargeTerms grouped 1 = (10, .groupLimit)) ∧
    (keepFirst 1 l = [⟨9, .notHeld⟩, ⟨7, .heldRetained⟩, ⟨5, .heldLive⟩, ⟨7, .overQuota⟩] ∧
      countMark .heldRetained (l.take 1) = 0 ∧ countMark .heldRetained (l.take 3) = 1) := by decide +kernel

theorem witness_RestoreStages :
    (∀ n ∈ [1, 64, 65], let c := ctx .verify (List.replicate n ⟨7, .unclassified⟩);
      Granted (restoring c) 5 ∧ look (restoring c).arb.waiting 5 = some ⟨.update, 0, .restoreStep⟩ ∧
      servedContext (restoring c) = some c ∧ c.cancel = false ∧ c.stage = .verify) ∧
    (let c := ctx .charge [⟨7, .heldRetained⟩];
      Granted (restoring c) 5 ∧ servedContext (restoring c) = some c ∧ c.mode = .allOrNone ∧
      countMark .heldRetained c.places = 1 ∧ 1 ≤ (chargeTerms (restoring c) c.target).1) ∧
    (let c := { ctx .charge (List.replicate 98 ⟨7, .heldRetained⟩) with mode := .allOrNone };
      Granted (restoring c) 5 ∧ servedContext (restoring c) = some c ∧
      (chargeTerms (restoring c) c.target).1 = 97 ∧ countMark .heldRetained c.places = 98) ∧
    (volume? stored 0 = some storedVol ∧ findSnapshot storedVol 2 = some (snap 2 .live 0) ∧ EpochsDistinct storedVol) ∧
    (let c := { ctx .charge (List.replicate 98 ⟨7, .heldRetained⟩) with mode := .asFits };
      Granted (restoring c) 5 ∧ servedContext (restoring c) = some c ∧ c.mode ≠ .allOrNone ∧
      0 < min (countMark .heldRetained c.places) (chargeTerms (restoring c) c.target).1) ∧
    (let c := { ctx .relink [⟨7, .heldRetained⟩] with cancel := true, hold := 1 };
      Granted (restoring c) 5 ∧ servedContext (restoring c) = some c ∧ c.cancel = true ∧ c.submitter = .mgmt) := by
  decide +kernel

theorem witness_RestoreStages_charge_none :
    (∀ m ∈ [RestoreMode.allOrNone, .asFits], let c := { ctx .charge [⟨9, .notHeld⟩] with mode := m };
      Granted (restoring c) 5 ∧ servedContext (restoring c) = some c ∧ c.cancel = false ∧ c.stage = .charge ∧
      countMark .heldRetained c.places = 0) ∧
    (let c := { ctx .charge [⟨7, .heldRetained⟩] with mode := .asFits };
      let s : State := { restoring c with accounts := [(1, man p0 ⟨100, 0, 0, 0⟩)] };
      Granted s 5 ∧ servedContext s = some c ∧ (chargeTerms s c.target).1 = 0 ∧
      min (countMark .heldRetained c.places) (chargeTerms s c.target).1 = 0) := by decide +kernel

/-- R107: a context of a head that is UP with its incarnation, UP with another one, and LOST, in the stage that ends it. -/
theorem witness_RestoreStages_answers :
    let c := fun (i : Nat) (stage : Stage) (l : List Place) =>
      ({ ctx stage l with submitter := .head 0 i, hold := countMark .heldRetained l } : Context)
    let s := fun (x : Context) (l : LinkState) => modifyHead 0 (fun H => { H with link := l, tags := [5] }) (up0 (restoring x))
    ∀ l ∈ [LinkState.up, .lost], ∀ i ∈ [1, 2], ∀ x ∈ [c i .charge [⟨9, .notHeld⟩], c i .relink [⟨7, .heldRetained⟩],
        { c i .relink [⟨7, .heldRetained⟩] with cancel := true }],
      Granted (s x l) 5 ∧ look (s x l).arb.waiting 5 = some ⟨.update, 0, .restoreStep⟩ ∧ servedContext (s x l) = some x ∧
      ((s x l).heads.get 0).tags = [5] ∧ ((s x l).heads.get 0).incarnation = 1 ∧
      (answeredHead x 0 ((s x l).heads.get 0)).tags = if l = .up ∧ i = 1 then [] else [5] := by decide +kernel

theorem witness_RestoreStages_relink :
    let c := fun (l : List Place) => { ctx .relink l with hold := countMark .heldRetained l, admitted := 1 }
    let s := fun (l : List Place) => restoring (c l)
    let h := fun (n : Nat) => List.replicate n (⟨7, .heldRetained⟩ : Place)
    let mixed : List Place := [⟨9, .notHeld⟩, ⟨7, .heldRetained⟩, ⟨5, .heldRetained⟩, ⟨7, .heldRetained⟩]
    (∀ l ∈ [h 1, mixed, h 32, h 33, h 32 ++ [⟨9, .notHeld⟩]], Granted (s l) 5 ∧
      look (s l).arb.waiting 5 = some ⟨.update, 0, .restoreStep⟩ ∧ servedContext (s l) = some (c l) ∧ (c l).cancel = false ∧
      (c l).stage = .relink ∧ (c l).cursor = 0) ∧
    -- the last step, of one place and of several
    (∀ l ∈ [h 1, mixed], l = l ++ [] ∧ countMark .heldRetained l < 32 ∧
      ∀ p ∈ l, p.mark = .heldRetained → (extentAt (s l).pool p.extent).map isReserved = some false) ∧
    -- 32 places: the last step with nothing or no held place behind, and a step before the last
    (∀ rest ∈ [[], [⟨9, .notHeld⟩], h 1], (h 32 ++ rest).drop 0 = h 32 ++ rest ∧ countMark .heldRetained (h 32) = 32 ∧
      (h 32).getLast?.map (·.mark) = some .heldRetained) ∧
    ((∃ p ∈ h 1, p.mark = .heldRetained) ∧ ∀ p ∈ [(⟨9, .notHeld⟩ : Place)], p.mark ≠ .heldRetained) ∧
    (volume? (s (h 1)) 0 = some storedVol ∧ findSnapshot storedVol 2 = some (snap 2 .live 0) ∧ EpochsDistinct storedVol) := by
  decide +kernel

/-- R104, R105: of a list with a passed-over place, a RETAINED extent, a LIVE one and the first again, the step relinks
the first, and each place is settled as the rule gives. -/
theorem test_relink_settles :
    let l : List Place := [⟨9, .notHeld⟩, ⟨7, .heldRetained⟩, ⟨5, .heldRetained⟩, ⟨7, .heldRetained⟩]
    (List.range 4).filterMap (relinkedAt stored l) = [⟨7, 0, 1, 1⟩] ∧
    (List.range 4).filterMap (settledAt stored l) = [⟨9, .notHeld⟩, ⟨7, .relinked⟩, ⟨5, .alreadyLive⟩, ⟨7, .alreadyLive⟩] ∧
    (relinkStep { ctx .relink l with hold := 3 } stored).pool.extents =
      [(5, .live 0 1 2 2), (6, .live 0 1 3 3), (7, .live 0 1 1 3)] := by decide +kernel

theorem witness_WalkSteps_relink :
    let c := { ctx .relink [⟨7, .heldRetained⟩] with hold := 1, admitted := 1 }
    let k : Walk := ⟨0, 1, some 7, some 7, false, 0, 0⟩
    let V : Volume := { storedVol with catalogue := [snap 1 .expiring 0, snap 2 .live 1] }
    let s : State := { restoring c with
      volumes := [(0, V)], epu := { (restoring c).epu with walk := some k, expiryQueue := [(0, 1)] } }
    (Granted s 5 ∧ look s.arb.waiting 5 = some ⟨.update, 0, .restoreStep⟩ ∧ servedContext s = some c ∧ c.cancel = false ∧
      c.stage = .relink) ∧
    (look s.volumes 0 = some V ∧ s.epu.walk = some k ∧ (k.finished = true ↔ [7] = []) ∧ k.position = [7].head? ∧
      k.endMarker = [7].getLast?) ∧
    ChainsWell s ∧ ChainOf s 0 V ([] ++ [7] ++ []) := by
  refine ⟨by decide +kernel, by decide +kernel, ?_, chain_stored _ _ rfl rfl ⟨rfl, rfl, rfl⟩⟩
  refine chainsWell_stored _ _ rfl rfl (by unfold TablesCanonical; decide +kernel) (by unfold PoolCounted CursorWell; decide +kernel)
    (by decide +kernel) (by decide +kernel) (by decide +kernel) ⟨by decide +kernel, ?_⟩ ?_ ?_
  · intro q hq
    rw [List.mem_singleton.mp hq]
    exact ⟨_, snap 1 .expiring 0, rfl, by decide +kernel, rfl, rfl⟩
  · intro k hk; cases hk; rfl
  · intro k hk _; cases hk
    exact ⟨[], [7], [], rfl, by decide, fun _ => by decide, fun x hx => by simp at hx⟩

/-- A pass of volume 0 to target 2. -/
def pass0 (phase : Phase) (mode : PassMode) : Pass := ⟨1, 0, 0, 2, mode, phase, 0, 0, some 0, 0, 0, .none, 1, false⟩

/-- A channel that holds a pass. -/
def chan (st : ChannelState) (q : List StreamItem) (staging : List StagingSlot) (o : Option Outstanding) : Channel :=
  { Channel.reset with
    state := st, pass := some (pass0 .body .rebase), queue := q, staging := staging, outstanding := o,
    deadline := o.map fun _ => 5 }

/-- A window event waiting. -/
def windowDue (s : State) : State := waits 8 (.ck .window) s

/-- R163: a turn of CK after which a reservation is due, and one after which nothing is. -/
theorem witness_ArbiterAtEveryRequestTurn_clock :
    let late := waits 8 (.ck (.lapse 0 0 2)) reserving
    let last := waits 8 (.ck .window) opening
    (winner late = some (8, false) ∧ ∃ t, exec .reservationLapse late = .next t ∧ Rising t.accounts ∧ ∃ d v, DueAt t d v) ∧
    (winner last = some (8, false) ∧ ∃ t, exec .windowEvent last = .next t ∧ Rising t.accounts ∧ ∀ d v, ¬ DueAt t d v) := by
  refine ⟨⟨by decide +kernel, _, rfl, by decide +kernel, 5, .lapse 0 0 1, due_reserving ?_ ?_⟩,
    ⟨by decide +kernel, _, rfl, by decide +kernel, ?_⟩⟩
  · decide +kernel
  · decide +kernel
  · intro d v hd
    cases v with
    | window => exact absurd hd.2.1 (by decide +kernel)
    | grace n =>
      obtain ⟨_, _, ⟨a, p, hl, hb, hq⟩, _⟩ := hd
      have h := mem_keys_of_look hl
      have e : ∀ x ∈ (world.accounts : Table Account), ∀ p, x.2.body = .person p → p.quota = .under := by
        intro x hx p hp
        simp only [world, List.mem_cons, List.not_mem_nil, or_false] at hx
        rcases hx with rfl | rfl
        · cases hp; rfl
        · cases hp
      rw [e _ h _ hb] at hq; cases hq
    | lapse h k g => obtain ⟨r, ho, _⟩ := hd; have ho := ho.1; rw [slots_world (by decide +kernel)] at ho; cases ho

/-- Table 10-1: what each agent may have to present: a head with a cleanup, with nothing, and with a request of each
class; the management link; restores; seal and walk work, alone and by turns; work of several channels. -/
theorem witness_ArbiterAtEveryRequestTurn_offers :
    let q := fun (r : Request) => (⟨1, 1, r⟩ : Queued)
    let lost := modifyHead 0 (fun H => { H with cleanup := some ⟨.leave, 1⟩ }) (up0 world)
    let sn := fun (e : List SealEntry) (x : List (Nat × Nat)) (w : SnWork) =>
      ({ world with epu := { world.epu with sealQueue := e, expiryQueue := x, lastTurn := w } } : State)
    let ready : List SealEntry := [⟨0, 9, []⟩]
    let early := { sn [⟨0, 9, []⟩] [] .sealOp with settings := { world.settings with poolLastSeal := some 1 } }
    let pass := fun (p : Phase) (accepted : Bool) => ({ pass0 p .rebase with closeAccepted := accepted } : Pass)
    let x := fun (p : Pass) => ({ chan .streaming [] [] none with pass := some p } : Channel)
    let always : Channel := { Channel.reset with passQueue := [(0, 2)], settings := ⟨true, true, 10, 5, 600, false⟩ }
    let dp := chanAt 2 (x (pass .close true)) (chanAt 1 always (chan0 (x (pass .body false)) world))
    ((lost.heads.get 0).cleanup ≠ none ∧ (world.heads.get 0).cleanup = none ∧ (world.heads.get 0).requests = []) ∧
    (∀ r ∈ [Request.queryAccount 1, .queryVolume 0, .queryArbiter, .cursorRead 1 true true, .status, .release 1 0 [5]],
      ((askedUp r world).heads.get 0).requests = q r :: [] ∧ (asked r world).mlu.requests = ⟨0, 1, r⟩ :: []) ∧
    world.mlu.requests = [] ∧ world.rsq.contexts = [] ∧ [ctx .verify []] ≠ [] ∧
    (∀ w ∈ [SnWork.sealOp, .walkStep], (∃ e ∈ (sn ready [(0, 1)] w).epu.sealQueue, sealEligible (sn ready [(0, 1)] w) e = true) ∧
      (sn ready [(0, 1)] w).epu.lastTurn = w ∧ (sn ready [(0, 1)] w).epu.expiryQueue ≠ [] ∧ (sn ready [] w).epu.expiryQueue = []) ∧
    (∀ e ∈ early.epu.sealQueue, sealEligible early e = false) ∧
    -- channel 0 has an evaluation, channel 1 a start and channel 2 a completion; 1 is next after 0
    (dpReady dp 0 = some .evaluate ∧ dpReady dp 1 = some .start ∧ dpReady dp 2 = some .complete ∧ dpReady dp 3 = none) ∧
    ({ dp with dpu := { dp.dpu with lastServed := 0 } } |> fun s => (turnsAway s 0, turnsAway s 1, turnsAway s 2)) = (3, 0, 1) ∧
    (∀ c, dpReady world c = none) := by decide +kernel

theorem witness_WindowTurns :
    (∀ p ∈ [(86400, 0), (0, 86400), (86399, 86399), (0, 0)],
      Takes (asked (.setWindow p.1 p.2) world) .mgmt 1 (.setWindow p.1 p.2)) ∧
    (Granted (windowDue world) 8 ∧ look (windowDue world).arb.waiting 8 = some ⟨.update, 0, .ck .window⟩ ∧
      (windowDue world).given = (windowDue world).clock.window) ∧
    (Granted (windowDue opening) 8 ∧ (windowDue opening).given = .open_ ∧ (windowDue opening).clock.window = .closed) ∧
    (let s := windowDue (chan0 (chan .streaming [] [] (some ⟨false, 1, 1⟩))
        { world with clock := ⟨21600, true, .open_, some 21600, false⟩ });
      Granted s 8 ∧ s.given = .closed ∧ s.clock.window = .open_ ∧ (s.channels.get 0).settings.windowOverride = false ∧
      (s.channels.get 0).state = .streaming ∧ (s.channels.get 0).outstanding = some ⟨false, 1, 1⟩ ∧
      (s.channels.get 1).state ≠ .streaming ∧ (s.channels.get 1).state ≠ .probing) ∧
    ((chan .streaming [] [] none).outstanding = none ∧ (chan .probing [] [] none).state = .probing) ∧
    ((chan (.suspended .streaming) [] [] none).state = .suspended .streaming ∧
      (chan (.suspended .probing) [] [] none).state = .suspended .probing) ∧
    (0, { vol [] with nightly := true }) ∈ ([(0, { vol [] with nightly := true })] : Table Volume) := by decide +kernel

/-- R70: nightly volumes with no entry, with entries of 7 and 8 waiters and one that holds the trigger already, and a
volume whose flag is OFF. -/
theorem witness_WindowTurns_nightly :
    let V := fun (on : Bool) => ({ vol [] with nightly := on } : Volume)
    let entry := fun (v n : Nat) => (⟨v, 9, List.replicate n (.mgmt 2)⟩ : SealEntry)
    let s := windowDue { opening with
      volumes := [(0, V true), (1, V true), (2, V true), (3, V true), (4, V false)]
      epu := { opening.epu with sealQueue := [entry 2 8, entry 1 7, ⟨3, 9, [.nightly]⟩, entry 4 1] } }
    Granted s 8 ∧ look s.arb.waiting 8 = some ⟨.update, 0, .ck .window⟩ ∧ s.given = .open_ ∧ s.clock.window = .closed ∧
      Rising s.volumes ∧ (s.epu.sealQueue.map (·.volume)).Nodup := by decide +kernel

/-- R70, R113: what the event makes of them; and the window at its ends, over midnight, and of equal times. -/
theorem test_nightly_triggers :
    let V := fun (on : Bool) => ({ vol [] with nightly := on } : Volume)
    let entry := fun (v n : Nat) => (⟨v, 9, List.replicate n (.mgmt 2)⟩ : SealEntry)
    let s := windowDue { opening with
      volumes := [(0, V true), (1, V true), (2, V true), (3, V true), (4, V false)]
      epu := { opening.epu with sealQueue := [entry 2 8, entry 1 7, ⟨3, 9, [.nightly]⟩, entry 4 1] } }
    (∃ t, exec .windowEvent s = .next t ∧
      t.epu.sealQueue = [entry 2 8, ⟨1, 9, List.replicate 7 (.mgmt 2) ++ [.nightly]⟩, ⟨3, 9, [.nightly]⟩, entry 4 1, ⟨0, 0, [.nightly]⟩] ∧
      t.mlu.notices = [.nightlySkipped 2 .busy]) ∧
    ([(3599, 3600, 21600), (3600, 3600, 21600), (21600, 3600, 21600), (86399, 79200, 3600), (3600, 79200, 3600), (5, 5, 5)].map
      fun x => windowGiven x.1 x.2.1 x.2.2) = [.closed, .open_, .closed, .open_, .closed, .closed] :=
  ⟨⟨_, rfl, by decide +kernel, by decide +kernel⟩, by decide +kernel⟩

theorem witness_PassRequests :
    let T := fun (v : Nat) (t : Option Nat) (s : State) => Takes (asked (.startPass v t) s) .mgmt 1 (.startPass v t)
    let W := fun (v : Nat) (s : State) => Takes (asked (.withdrawPass v) s) .mgmt 1 (.withdrawPass v)
    let V := vol [snap 1 .live 1, snap 2 .live 0]
    let q := fun (e : Nat) => chan0 { Channel.reset with passQueue := [(0, e)] } world
    (T 63 none world ∧ volume? world 63 = none) ∧ (V.catalogue.map (·.epoch)).Pairwise (· < ·) ∧
    (let s : State := { world with volumes := [(0, vol [snap 1 .expiring 0])] };
      T 0 none s ∧ (∀ p ∈ (vol [snap 1 .expiring 0]).catalogue, p.state = .expiring) ∧ T 0 (some 1) s) ∧
    (T 0 (some 3) world ∧ findSnapshot V 3 = none) ∧
    (let s : State := { world with volumes := [(0, { V with shippedBase := 2 })] };
      T 0 none s ∧ passTarget { V with shippedBase := 2 } none = some 2) ∧
    (T 0 none world ∧ volume? world 0 = some V ∧ passTarget V none = some 2 ∧ V.shippedBase < 2 ∧
      queuedTarget (world.channels.get 0).passQueue 0 = none) ∧
    (T 0 (some 2) (q 1) ∧ queuedTarget ((q 1).channels.get 0).passQueue 0 = some 1 ∧ passTarget V (some 2) = some 2) ∧
    (T 0 (some 2) (q 2) ∧ queuedTarget ((q 2).channels.get 0).passQueue 0 = some 2) ∧
    (findSnapshot V 1 = some (snap 1 .live 1) ∧ EpochsDistinct V ∧ findSnapshot V 2 = some (snap 2 .live 0)) ∧
    (W 63 world ∧ W 0 world) ∧ (W 0 (q 2) ∧ volume? (q 2) 0 = some V) := by decide +kernel

theorem witness_PassTurns :
    let s := fun (V : Volume) (x : Channel) (k : DpWork) => waits 7 (.dp 0 k) (chan0 x
      { world with clock := { world.clock with window := .open_ }, volumes := [(0, V)] })
    let V := vol [snap 1 .live 1, snap 2 .live 1]
    let x : Channel := { Channel.reset with passQueue := [(0, 2)] }
    (∀ W ∈ [V, { V with shippedBase := 2 }, { V with shippedBase := 1 }, { V with shippedBase := 1, needsRebase := true }],
      Granted (s W x .start) 7 ∧ look (s W x .start).arb.waiting 7 = some ⟨.update, 0, .dp 0 .start⟩ ∧
      dpReady (s W x .start) 0 = some .start ∧ ((s W x .start).channels.get 0).passQueue = (0, 2) :: [] ∧
      volume? (s W x .start) 0 = some W) ∧
    (dpReady (s V { x with staging := [] } .start) 0 = some .start ∧
      ((s V { x with staging := [] } .start).channels.get 0).staging = []) ∧ x.staging ≠ [] ∧
    (findSnapshot V 2 = some (snap 2 .live 1) ∧ EpochsDistinct V ∧ (pass0 .close .rebase).target = 2) ∧
    (∀ k ∈ [DpWork.start, .evaluate, .complete], Granted (s V Channel.reset k) 7 ∧
      look (s V Channel.reset k).arb.waiting 7 = some ⟨.update, 0, .dp 0 k⟩ ∧ dpReady (s V Channel.reset k) 0 ≠ some k) ∧
    (let c : Channel := { chan .streaming [] [] none with pass := some { pass0 .close .rebase with closeAccepted := true } };
      Granted (s V c .complete) 7 ∧ look (s V c .complete).arb.waiting 7 = some ⟨.update, 0, .dp 0 .complete⟩ ∧
      dpReady (s V c .complete) 0 = some .complete) := by decide +kernel

theorem witness_EvaluationStaysWithinChannel :
    let s := waits 7 (.dp 0 .evaluate) (chan0 (chan .streaming [.openPass] [.empty, .empty] none) stored)
    Granted s 7 ∧ look s.arb.waiting 7 = some ⟨.update, 0, .dp 0 .evaluate⟩ ∧ dpReady s 0 = some .evaluate ∧
      (s.channels.get 0).pass = some (pass0 .body .rebase) := by decide +kernel

theorem witness_EvaluationStaysWithinChannel_laws :
    let p := pass0 .body .delta
    let x := fun (n : Nat) (q : List StreamItem) (staging : List StagingSlot) =>
      ({ chan .streaming q staging none with pass := some p, batch := List.replicate n 5 } : Channel)
    let e : JournalEntry := ⟨0, .birth, 0, 5, 1, 2, none⟩
    let pool : Pool := { stored.pool with extents := [(5, .live 0 1 1 2), (6, .retained 0 1 1 2 3 none none)] }
    -- a batch and a DROP in the queue; no batch; a batch and no DROP
    (∀ n ∈ [1, 31], (x n [.drop [1]] []).pass = some p ∧ (x n [.drop [1]] []).batch ≠ [] ∧
      StreamItem.drop [1] ∈ (x n [.drop [1]] []).queue) ∧
    ((x 0 [] []).batch = [] ∧ ∀ l, StreamItem.drop l ∉ (x 31 [.openPass] []).queue) ∧
    -- no EMPTY slot, slot 0 and slot 1 the lowest
    (StagingSlot.empty ∉ [StagingSlot.filling 1 1] ∧ [StagingSlot.empty][0]? = some .empty ∧
      [StagingSlot.filling 1 1, .empty][1]? = some .empty ∧ ∀ j < 1, [StagingSlot.filling 1 1, .empty][j]? ≠ some .empty) ∧
    -- batches of 30 and 31
    ((x 30 [] []).batch.length < 31 ∧ 31 ≤ (x 31 [] []).batch.length) ∧
    -- BIRTH extents carried LIVE and RETAINED, and one that is FREE; DEATH runs at and above the base
    (extentAt pool 5 = some (.live p.volume 1 1 e.epoch) ∧ extentAt pool 6 = some (.retained p.volume 1 1 e.epoch 3 none none) ∧
      p.target < 3 ∧ extentAt pool 8 = none) ∧
    (p.base = 0 ∧ ({ e with kind := .death, oldShip := some 0 } : JournalEntry).oldShip = some 0) ∧
    -- a DELTA cursor at A, at an entry above the target, of another volume, and at one evaluated
    ((⟨[], 0, 0⟩ : Journal).append ≤ p.cursor ∧ (∀ j ∈ [e, { e with epoch := 3 }, { e with volume := 1 }],
      (⟨[j], 1, 0⟩ : Journal).oldest ≤ p.cursor ∧ p.cursor < (⟨[j], 1, 0⟩ : Journal).append ∧ [j][p.cursor - 0]? = some j) ∧
      e.volume = p.volume ∧ e.epoch ≤ p.target) ∧
    -- a REBASE cursor at N and below it, at an extent held with birth epoch 1
    ({ pool with capacity := 0 }.capacity ≤ p.cursor ∧ ({ p with cursor := 5 } : Pass).cursor < pool.capacity ∧ 1 ≤ p.target) := by
  refine ⟨by decide +kernel, ⟨by decide +kernel, fun l => by simp [chan]⟩, by decide +kernel, by decide +kernel, by decide +kernel,
    by decide +kernel, by decide +kernel, by decide +kernel⟩

/-- R123, R126, R127, R129: a DEATH run is gathered, a later BIRTH flushes it before its carry, and the stream ends with
the counts; a REBASE sweep carries with birth epochs. -/
theorem test_evaluation :
    let x := fun (m : PassMode) => ({ chan .streaming [] [.empty, .empty] none with pass := some (pass0 .body m) } : Channel)
    let j : Journal := ⟨[⟨0, .death, 0, 8, 2, 2, some 0⟩, ⟨1, .birth, 0, 5, 2, 2, none⟩], 2, 0⟩
    (evaluateDelta 0 stored.pool j 64 ⟨x .delta, []⟩).channel.queue = [.drop [8, 9], .carry 5 2 0, .closePass 1 2] ∧
    (evaluateRebase 0 { stored.pool with capacity := 60 } 64 ⟨x .rebase, []⟩).channel.queue =
      [.carry 5 2 0, .carry 7 1 1, .closePass 2 0] := by decide +kernel

theorem witness_ChannelSettingsStored :
    let x := fun (o : Bool) => (⟨true, o, 61, 0, 3601, false⟩ : ChannelSettings)
    let T := fun (n : Nat) (o : Bool) (s : State) => Takes (asked (.setChannel n (x o)) s) .mgmt 1 (.setChannel n (x o))
    let S := fun (n : Nat) (s : State) => Takes (asked (.setSplit n) s) .mgmt 1 (.setSplit n)
    T 4 false world ∧ (T 3 false world ∧ four? 3 = some 3 ∧ world.clock.window = .closed) ∧
    (∀ st ∈ [ChannelState.suspended .streaming, .suspended .probing, .streaming, .probing, .stopped],
      T 0 true (chan0 (chan st [] [] none) world) ∧ T 0 false (chan0 (chan st [] [] none) world)) ∧
    T 0 false (chan0 (chan .streaming [] [] (some ⟨false, 1, 1⟩)) world) ∧
    T 0 false { world with clock := { world.clock with window := .closed } } ∧
    S 4 world ∧ (S 3 world ∧ (∀ c, (world.channels.get c).state = .idle) ∧ world.dpu.inFlight = []) ∧
    (S 0 (chan0 (chan .stopped [] [] none) world) ∧ (chan .stopped [] [] none).state ≠ .idle) ∧
    (let s : State := { world with dpu := { world.dpu with inFlight := [⟨0, 0, 5, 1, false⟩] } }; S 0 s ∧ s.dpu.inFlight ≠ []) := by
  decide +kernel

theorem witness_ChannelCommands :
    let s := fun (c : Condition) => chan0 { chan .stopped [.carry 5 2 1] [.faulted 5 1, .full 6 1 [] 0] none with condition := c } world
    let R := fun (n : Nat) (s : State) => Takes (asked (.resume n) s) .mgmt 1 (.resume n) ∧
      Takes (asked (.clear n) s) .mgmt 1 (.clear n) ∧ Takes (asked (.cancelPass n) s) .mgmt 1 (.cancelPass n)
    (R 4 world ∧ 3 < 4) ∧ (R 3 world ∧ four? 3 = some 3 ∧ (world.channels.get 3).state ≠ .stopped ∧
      (world.channels.get 3).state = .idle) ∧
    (∀ c ∈ [Condition.noStaging, .journalLost, .cancelled, .refused 7, .retryLimit, .integrity, .sourceFault],
      R 0 (s c) ∧ ((s c).channels.get 0).state = .stopped ∧ ((s c).channels.get 0).condition = c ∧
      ((s c).channels.get 0).pass = some (pass0 .body .rebase)) ∧
    ((volume? world (pass0 .body .rebase).volume).bind (fun V => findSnapshot V (pass0 .body .rebase).target) =
        some (snap 2 .live 0) ∧ EpochsDistinct (vol [snap 1 .live 1, snap 2 .live 0])) ∧
    ((s .integrity).channels.get 0).staging[(0 : Nat)]? = some (.faulted 5 1) ∧
    ((s .integrity).channels.get 0).staging.getD 1 .empty = .full 6 1 [] 0 := by decide +kernel

theorem witness_LinkScheduler :
    let s := chan0 (chan .streaming [.openPass] [] none) { world with clock := { world.clock with window := .open_, now := 3600 } }
    let busy : State := { s with dpu := { s.dpu with transmission := some ⟨0, ⟨false, 1, 1⟩, 600⟩ } }
    let sent := chan0 (chan .streaming [.openPass] [] (some ⟨false, 1, 1⟩)) busy
    let probing := chan0 { chan .probing [] [] none with probeDue := some 3600 } s
    (s.part = .running ∧ (s.channels.get 0).pass = some (pass0 .body .rebase) ∧ s.dpu.transmission = none ∧
      executable s 0 = true ∧ ∀ d, d ≠ 0 → executable s d = false) ∧
    busy.dpu.transmission ≠ none ∧ (∀ d, executable world d = false) ∧
    (sent.dpu.transmission = some ⟨0, ⟨false, 1, 1⟩, 600⟩ ∧
      sent.clock.now + 600 ≤ clockMax ∧
      (sent.channels.get 0).outstanding = some ⟨false, 1, 1⟩ ∧ (busy.channels.get 0).outstanding ≠ some ⟨false, 1, 1⟩) ∧
    ((probing.channels.get 0).state = .probing ∧ (probing.channels.get 0).probeDue = some 3600 ∧ 3600 ≤ probing.clock.now ∧
      (probing.channels.get 0).outstanding = none ∧ 0 < remainingWindow probing) := by decide +kernel

/-- R141: where a CARRY may go: with 600 seconds left and not with 599, and with the override at any time; where the front
of a queue may not; and the items whose frames Table 8-6 lays out. -/
theorem witness_LinkScheduler_executable :
    let at_ := fun (now : Nat) (x : Channel) => chan0 x { world with clock := { world.clock with window := .open_, now := now } }
    let carry := fun (always : Bool) => { chan .streaming [.carry 5 2 0] [.full 5 1 [] 7] none with settings := ⟨true, always, 10, 5, 600, false⟩ }
    let x := fun (st : ChannelState) => chan st [.openPass] [.filling 5 1] none
    (∀ st ∈ [ChannelState.idle, .stopped, .suspended .streaming, .suspended .probing],
      (((at_ 3600 (x st)).channels.get 0).pass = some (pass0 .body .rebase) ∧ ((at_ 3600 (x st)).channels.get 0).state = st)) ∧
    (remainingWindow (at_ 21000 (carry false)) = 600 ∧ executable (at_ 21000 (carry false)) 0 = true ∧
      remainingWindow (at_ 21001 (carry false)) = 599 ∧ executable (at_ 21001 (carry false)) 0 = false ∧
      remainingWindow (at_ 21600 (carry true)) = 0 ∧ executable (at_ 21600 (carry true)) 0 = true) ∧
    (executable (at_ 21599 (x .streaming)) 0 = true ∧ executable (at_ 21600 (x .streaming)) 0 = false ∧
      executable (at_ 3600 { x .streaming with suspendPending := true }) 0 = false ∧
      executable (at_ 3600 { x .streaming with queue := [.carry 5 2 0] }) 0 = false ∧
      executable (at_ 3600 { x .streaming with queue := [] }) 0 = false) ∧
    (executable (at_ 21599 { x .probing with probeDue := some 21599 }) 0 = true ∧
      executable (at_ 21599 { x .probing with probeDue := some 21600 }) 0 = false ∧
      executable (at_ 21600 { x .probing with probeDue := some 21600 }) 0 = false) ∧
    (∀ i ∈ [StreamItem.openPass, .drop [], .closePass 1 2, .carry 5 2 0],
      { carry false with queue := [i, .drop [1]] }.queue = i :: [.drop [1]] ∧
      (carry false).staging.getD 0 .empty = .full 5 1 [] 7) ∧
    (world.channels.get 0).pass = none := by decide +kernel

/-- R180, R182: the body of a DROP of two extents, byte by byte. -/
theorem test_drop_bytes :
    (Output.frame 0 (.drop 1 2 [3, 258])).envelope? =
      some ⟨0x82, 0, 0, 0, [0, 0, 0, 1, 0, 0, 0, 2, 2, 0, 0, 0, 3, 0, 0, 1, 2]⟩ := by decide +kernel

/-- An ACCEPT of pass 1, sequence 1, with echo 7. -/
def acceptFrame1 : List Byte := frame 0x90 0 0 (beBytes 4 1 ++ beBytes 4 1 ++ beBytes 4 7)

theorem witness_AcceptAdvancesStream :
    let s := fun (i : StreamItem) (rest : List StreamItem) (staging : List StagingSlot) =>
      chan0 (chan .streaming (i :: rest) staging (some ⟨false, 1, 1⟩)) world
    let o := (⟨false, 1, 1⟩ : Outstanding)
    readGatewayFrame acceptFrame1 = .accept 1 1 7 ∧ world.part = .running ∧
    (∀ c, (world.channels.get c).outstanding = none) ∧
    (∀ i ∈ [StreamItem.openPass, .carry 5 2 0, .drop [1, 2], .closePass 1 2],
      let t := s i [.carry 6 2 1] [.full 5 1 [] 7, .filling 6 1];
      (t.channels.get 0).outstanding = some o ∧ o.probe = false ∧ o.passId = 1 ∧ o.seq = 1 ∧
      (t.channels.get 0).pass = some (pass0 .body .rebase) ∧ (t.channels.get 0).queue = i :: [.carry 6 2 1] ∧
      (t.channels.get 0).state = .streaming) ∧
    -- the lowest channel is 0, or 2 behind a PROBE of that id and sequence
    (∀ d : ChanId, ¬ d < 0) ∧
    (let t := chanAt 2 (chan .streaming [.openPass] [] (some o)) (chan0 (chan .probing [] [] (some ⟨true, 1, 1⟩)) world);
      (t.channels.get 2).outstanding = some o ∧
      ∀ d : ChanId, d < 2 → (t.channels.get d).outstanding.all (fun o => o.probe) = true) ∧
    -- an OPEN_PASS whose stream has ended before its ACCEPT
    (let t := chan0 { chan .streaming [.openPass] [] (some o) with pass := some (pass0 .close .rebase) } world;
      (t.channels.get 0).pass = some (pass0 .close .rebase) ∧ (pass0 .close .rebase).phase ≠ .open_) ∧
    -- a digest that differs, at each count, and both settings of stop-on-integrity
    (∀ n ∈ [0, 1, 2], ∀ stop ∈ [true, false],
      let y : Channel := { chan .streaming [.carry 5 2 0] [.full 5 1 [] 8] (some o) with
        failures := n, settings := ⟨true, false, 10, 5, 600, stop⟩ };
      ((chan0 y world).channels.get 0).staging.getD 0 .empty = .full 5 1 [] 8 ∧ (8 : Digest) ≠ 7 ∧
      ((chan0 y world).channels.get 0).settings.stopOnIntegrity = stop ∧ ((chan0 y world).channels.get 0).failures = n) ∧
    -- the next CARRY on a FAULTED slot, behind a DROP and behind a CARRY
    (∀ i ∈ [StreamItem.drop [], .carry 5 2 0], let t := s i [.carry 6 2 1] [.full 5 1 [] 7, .faulted 6 1];
      (t.channels.get 0).outstanding = some o ∧ (t.channels.get 0).queue = i :: .carry 6 2 1 :: [] ∧
      (t.channels.get 0).staging.getD 1 .empty = .faulted 6 1 ∧ (t.channels.get 0).staging.getD 0 .empty = .full 5 1 [] 7) ∧
    (pass0 .open_ .rebase).phase = .open_ := by decide +kernel

theorem witness_ResponsesAndTimeouts :
    let s := fun (n : Nat) (probe : Bool) => chan0
      { chan (if probe then .probing else .streaming) [.openPass] [] (some ⟨probe, 1, 1⟩) with failures := n }
      { world with clock := { world.clock with now := 5 } }
    let body := beBytes 4 1 ++ beBytes 4 1
    readGatewayFrame (frame 0x91 0 0 body) = .defer 1 1 ∧ readGatewayFrame (frame 0x92 0 0 (body ++ [9])) = .refuse 1 1 9 ∧
    readGatewayFrame (frame 0x93 0 0 body) = .ready 1 1 ∧
    (∀ probe ∈ [false, true], (s 0 probe).part = .running ∧ ((s 0 probe).channels.get 0).pass = some (pass0 .body .rebase) ∧
      (s 0 probe).clock.now + ((s 0 probe).channels.get 0).settings.probeInterval ≤ clockMax ∧
      ((s 0 probe).channels.get 0).outstanding = some ⟨probe, 1, 1⟩) ∧
    -- none: no frame outstanding, and for a READY a data frame; the lowest: channel 0, or channel 3 behind other frames
    (∀ c, (world.channels.get c).outstanding = none) ∧ (∀ d : ChanId, ¬ d < 0) ∧
    (let t := chanAt 3 (chan .probing [] [] (some ⟨true, 1, 1⟩)) (s 0 false);
      (t.channels.get 3).outstanding = some ⟨true, 1, 1⟩ ∧
      ∀ d : ChanId, d < 3 → (t.channels.get d).outstanding.all (fun o => !o.probe) = true) ∧
    (∀ n ∈ [0, 1, 2], ((s n false).channels.get 0).outstanding = some ⟨false, 1, 1⟩ ∧
      ((s n false).channels.get 0).deadline = some 5 ∧ 5 ≤ (s n false).clock.now ∧ ((s n false).channels.get 0).failures = n) := by
  decide +kernel

theorem witness_PoolReads :
    let r := fun (re : Bool) => (⟨0, 0, 5, 1, re⟩ : PoolRead)
    let older : PoolRead := ⟨1, 0, 5, 2, false⟩
    let s := fun (q f : List PoolRead) (k : StagingSlot) => { chan0 (chan .streaming [.carry 5 2 0] [k] none) world with
      dpu := { world.dpu with readQueue := q, inFlight := f } }
    (world.part = .running ∧ (s [r false] (List.replicate 15 (r false)) .empty).dpu.readQueue = r false :: [] ∧
      (s [r false] (List.replicate 15 (r false)) .empty).dpu.inFlight.length < 16) ∧
    (∀ q ∈ (s [] [older] .empty).dpu.inFlight, ¬ (q.channel = 0 ∧ q.slot = 0 ∧ q.passId = 1)) ∧
    (∀ re ∈ [false, true], r re ∈ (s [] [older, r re] (.filling 5 1)).dpu.inFlight ∧
      (∀ q ∈ (s [] [older, r re] (.filling 5 1)).dpu.inFlight, q.channel = (r re).channel → q.slot = (r re).slot →
        q.passId = (r re).passId → q = r re) ∧
      ((s [] [older, r re] (.filling 5 1)).channels.get 0).staging.getD 0 .empty = .filling 5 (r re).passId ∧
      (r re).reread = re) ∧
    (let t := s [] [r true] (.filling 5 1); (t.channels.get 0).queue = .carry 5 2 0 :: [] ∧
      (r true).slot < (t.channels.get 0).staging.length ∧ (t.channels.get 0).state = .streaming ∧
      (t.channels.get 0).pass = some (pass0 .body .rebase)) ∧
    -- a fault of a reread that stops nothing: a channel at rest, and a pending CARRY on another slot
    (∀ st ∈ [ChannelState.idle, .stopped], ((chan0 (chan st [.carry 5 2 0] [.filling 5 1] none) world).channels.get 0).state = st) ∧
    (let y := chan .streaming [.carry 6 2 1] [.filling 5 1, .full 6 1 [] 7] none;
      y.queue = .carry 6 2 1 :: [] ∧ y.staging.getD 0 .empty = .filling 5 1 ∧ y.staging.getD 1 .empty = .full 6 1 [] 7) ∧
    ((s [] [r false] .empty).channels.get 0).staging.getD 0 .empty = .empty ∧
    ∀ k ∈ [StagingSlot.filling 5 2, .faulted 5 2, .full 5 2 [1] 7],
      ((s [] [r false] k).channels.get 0).staging.getD 0 .empty = k ∧ 2 ≠ (r false).passId := by
  decide +kernel

/-- A state with work of every kind in which the tables are canonical, for the invariants. -/
def working : State := { sealing 8 (askedUp (.release 1 0 [5]) stored) with pending := [.release 0 1 1 0 [5]] }

theorem witness_TablesStayCanonical : TablesCanonical working ∧ ∃ t, step working = .next t :=
  ⟨by unfold TablesCanonical; decide +kernel, _, rfl⟩

theorem witness_TablesStayCanonical_journal :
    let s : State := { working with journal := ⟨[⟨7, .birth, 0, 5, 1, 3, none⟩], 8, 7⟩ }
    JournalWell s ∧ ∃ t, step s = .next t ∧ t.journal.entries.length = 2 := by
  refine ⟨⟨rfl, by decide, ?_⟩, _, rfl, by decide +kernel⟩
  intro i e h
  match i, h with
  | 0, h => cases h; rfl
  | i + 1, h => simp at h

theorem witness_AgesStayBounded :
    let l : Table Waiting := [(0, ⟨.update, 64, .link⟩), (5, ⟨.update, 71, .restoreStep⟩)]
    AgesBounded { working with arb := { working.arb with waiting := l } } ∧
      ∃ t, step { working with arb := { working.arb with waiting := l } } = .next t :=
  ⟨by unfold AgesBounded; decide +kernel, _, rfl⟩

/-- Head 0 waits with a release, and no other agent has anything to present. -/
def presenting : State := { askedUp (.release 1 0 [5]) stored with pending := [.release 0 1 1 0 [5]] }

theorem witness_AgesStayBounded_present :
    AgentsPresent presenting ∧ ∃ t, step presenting = .next t := by
  refine ⟨?_, _, rfl⟩
  intro _ a ha hw
  have h0 : a ≠ 0 := by rintro rfl; exact absurd hw (by decide +kernel)
  have hc : ∀ h : HeadId, (presenting.heads.get h).cleanup = none := by decide +kernel
  have hr : ∀ h : HeadId, h ≠ 0 → (presenting.heads.get h).requests = [] := by decide +kernel
  have hs : ∀ c : ChanId, (presenting.channels.get c).state = .idle ∧
      (presenting.channels.get c).passQueue = [] := by decide +kernel
  refine ⟨fun h _ hn => absurd (hc h) hn, ?_, ?_, ?_, ?_, ?_⟩
  · intro h e _
    have hh : h ≠ 0 := by rintro rfl; exact h0 e
    exact ⟨fun _ => rfl, fun q l hq => by have := hr h hh; simp_all⟩
  · exact fun _ => ⟨fun _ => rfl, fun q l hq => by cases hq⟩
  · exact fun _ => ⟨fun _ => rfl, fun hn => absurd rfl hn⟩
  · refine fun _ => ⟨fun _ _ => rfl, fun hn _ => ?_, fun hn => absurd rfl hn⟩
    obtain ⟨e, he, _⟩ := hn; cases he
  · refine fun _ => ⟨fun _ => rfl, fun c w hready _ => ?_⟩
    cases w with
    | start => exact absurd (hs c).2 hready.2.2.1
    | evaluate => exact absurd hready.1 (by rw [show (_ : Channel).state = _ from (hs c).1]; decide)
    | complete => exact absurd (hs c).1 hready.1

theorem witness_PoolStaysCounted : PoolCounted working ∧ ∃ t, step working = .next t :=
  ⟨by unfold PoolCounted CursorWell; decide +kernel, _, rfl⟩

theorem witness_ChannelsStayWell :
    let s := chan0 { chan .stopped [] [] none with condition := .retryLimit, failures := 3 } working
    ChannelsWell s ∧ ∃ t, step s = .next t :=
  ⟨by unfold ChannelsWell ChannelWell; decide +kernel, _, rfl⟩

theorem witness_QueuesStayBounded : QueuesBounded working ∧ ∃ t, step working = .next t := by
  refine ⟨?_, _, rfl⟩
  unfold QueuesBounded HeadBounded
  refine ⟨by decide +kernel, by decide +kernel, by decide +kernel, by decide +kernel, by decide +kernel, by decide +kernel, ?_,
    by decide +kernel, by decide +kernel⟩
  intro v V h
  by_cases hv : v = 0
  · subst hv; exact some_all (P := fun V => V.catalogue.length ≤ 64)
      (a := (volume? working 0).get (by decide +kernel)) (by decide +kernel) (by decide +kernel) V h
  · have : look working.volumes v = none := by simp [working, sealing, askedUp, stored, look, hv]
    rw [this] at h; cases h

theorem accounts_working {n : Nat} {a : Account} (h : look working.accounts n = some a) :
    (n = 1 ∧ a = man p0 ⟨2, 0, 0, 1⟩) ∨ (n = 2 ∧ a = crew (some 10) 0) := by
  have h := mem_keys_of_look h
  simpa [working, sealing, askedUp, stored] using h

theorem witness_RecordsStayTrue_chains : ChainsWell working ∧ ∃ t, step working = .next t :=
  ⟨chainsWell_stored _ storedVol rfl rfl witness_TablesStayCanonical.1 witness_PoolStaysCounted.1 (by decide +kernel)
    (by decide +kernel) (by decide +kernel) ⟨by decide +kernel, fun q h => absurd h List.not_mem_nil⟩
    (fun k h => by cases h) (fun k h => by cases h), _, rfl⟩

/-- Volume 0 with snapshot 2 named by a restore context, by the queue of channel 0 and by the pass of channel 1. -/
def pinned : State :=
  { chanAt 1 (chan .streaming [] [] none) (chan0 { Channel.reset with passQueue := [(0, 2)] } working) with
    volumes := [(0, { storedVol with catalogue := [snap 1 .live 0, snap 2 .live 3] })], rsq := ⟨[ctx .verify []], none⟩ }

theorem witness_RecordsStayTrue_pins : PinsWell pinned ∧ ∃ t, step pinned = .next t := by
  have only : ∀ {v V}, look pinned.volumes v = some V → v = 0 ∧ V = { storedVol with catalogue := [snap 1 .live 0, snap 2 .live 3] } := by
    intro v V h; have h := mem_keys_of_look h; simpa [pinned] using h
  refine ⟨⟨?_, ?_, ?_, by decide +kernel, by decide +kernel, fun h => absurd rfl h⟩, _, rfl⟩
  · exact chainsWell_stored _ _ rfl rfl (by unfold TablesCanonical; decide +kernel) (by unfold PoolCounted CursorWell; decide +kernel)
      (by decide +kernel) (by decide +kernel) (by decide +kernel) ⟨by decide +kernel, fun q h => absurd h List.not_mem_nil⟩
      (fun k h => by cases h) (fun k h => by cases h)
  · intro v V p h hp
    obtain ⟨rfl, rfl⟩ := only h
    simp only [List.mem_cons, List.not_mem_nil, or_false] at hp
    rcases hp with rfl | rfl <;> decide +kernel
  · intro q hq
    have e : namedSnapshots pinned = [(0, 2), (0, 2), (0, 2)] := by decide +kernel
    rw [e] at hq
    have : q = (0, 2) := by simpa using hq
    subst this
    exact ⟨_, snap 2 .live 3, rfl, by decide, rfl⟩

theorem slots_working (h : HeadId) (k : Nat) : (slotOf working h k).reservation = none := by
  have e : ∀ h : HeadId, (working.heads.get h).slots = List.replicate 32 ⟨0, none⟩ := by decide +kernel
  by_cases hk : k < 32
  · rw [slotOf, e, List.getD_eq_getElem?_getD, List.getElem?_replicate, if_pos hk]; rfl
  · rw [slotOf, e, List.getD_eq_getElem?_getD, List.getElem?_replicate, if_neg hk]; rfl

theorem witness_RecordsStayTrue_figures : FiguresWell working ∧ ∃ t, step working = .next t := by
  refine ⟨⟨witness_TablesStayCanonical.1, witness_PoolStaysCounted.1, ?_, ?_, ?_,
    ⟨by decide +kernel, fun _ => rfl, fun c h => absurd h List.not_mem_nil⟩, ?_, ?_⟩, _, rfl⟩
  · intro x e h
    rcases extents_stored rfl h with ⟨_, rfl⟩ | ⟨_, rfl⟩ | ⟨_, rfl⟩ <;> exact ⟨_, p0, rfl, rfl⟩
  · intro n a p h hb
    rcases accounts_working h with ⟨rfl, rfl⟩ | ⟨_, rfl⟩
    · cases hb; exact ⟨by decide +kernel, by decide +kernel, by decide +kernel, fun _ => by decide +kernel, fun g h => by cases h⟩
    · cases hb
  · intro n a g h hb
    rcases accounts_working h with ⟨_, rfl⟩ | ⟨rfl, rfl⟩
    · cases hb
    · cases hb; decide +kernel
  · intro h
    refine ⟨(by decide +kernel : ∀ h : HeadId, (working.heads.get h).slots.length = 32) h, ?_⟩
    intro k r ho; rw [OpenSlot, slots_working] at ho; cases ho.1
  · intro _ x v o i k g h
    rcases extents_stored rfl h with ⟨_, h⟩ | ⟨_, h⟩ | ⟨_, h⟩ <;> cases h

end Sys2Proof.Tests
end

/-! SUPPORT. Chapter 2: the admission terms and the quota state, each function said once. -/

namespace Sys2Proof.Machine

/-! ## The retention charge (R24) -/

/-- R24: the charge is the ceiling of the product over 100. -/
theorem retentionCharge_bounds (retained percent : Nat) :
    retained * percent ≤ 100 * retentionCharge retained percent ∧
      100 * retentionCharge retained percent < retained * percent + 100 := by
  unfold retentionCharge ceilDiv
  omega

@[simp] theorem retentionCharge_zero_left (percent : Nat) : retentionCharge 0 percent = 0 := by
  simp [retentionCharge, ceilDiv]

@[simp] theorem retentionCharge_zero_right (retained : Nat) : retentionCharge retained 0 = 0 := by
  simp [retentionCharge, ceilDiv]

theorem retentionCharge_hundred (retained : Nat) : retentionCharge retained 100 = retained := by
  have := retentionCharge_bounds retained 100
  omega

/-- Settles O8: the bounds of the ceiling, and its values at the ends of the ranges. -/
theorem retentionChargeRule : Obligations.RetentionChargeRule :=
  ⟨retentionCharge_bounds, retentionCharge_zero_left, retentionCharge_zero_right, retentionCharge_hundred, rfl,
    fun _ => ⟨rfl, rfl⟩⟩

/-! ## The terms of an admission (R25 to R29) -/

/-- R25: a person that is not LAPSED is limited by its hard limit. -/
theorem effectiveLimit_hard {p : Person} (h : p.quota ≠ .lapsed) : effectiveLimit p = p.hard := by
  unfold effectiveLimit
  split
  · next hl => exact absurd hl h
  · rfl

/-- R25: a LAPSED person is limited by its soft limit. -/
theorem effectiveLimit_lapsed {p : Person} (h : p.quota = .lapsed) : effectiveLimit p = p.soft.getD p.hard := by
  simp [effectiveLimit, h, softLimit]

theorem groupHeadroom_of_no_parent (s : State) {p : Person} (h : p.parent = none) : groupHeadroom s p = none := by
  simp [groupHeadroom, h]

/-- R27: the group term of a person whose parent is a group. -/
theorem groupHeadroom_of_parent {s : State} {p : Person} {n : Nat} {G : Account} {g : Group} (hp : p.parent = some n)
    (hG : look s.accounts n = some G) (hg : G.body = .group g) :
    groupHeadroom s p = g.hard.map (· - effectiveUse G) := by
  simp [groupHeadroom, hp, hG, hg]

/-- The lesser of a number and an absent or present term, as a bound. -/
theorem minTerm_le (n : Nat) (o : Option Nat) : minTerm n o ≤ n ∧ ∀ x, o = some x → minTerm n o ≤ x := by
  cases o <;> simp [minTerm]

/-- The lesser of a number and a term is one of them. -/
theorem minTerm_eq_or (n : Nat) (o : Option Nat) : minTerm n o = n ∨ o = some (minTerm n o) := by
  cases o with
  | none => exact .inl rfl
  | some m => rcases Nat.le_total n m with h | h <;> simp [minTerm, h]

/-- R29: the headroom is at most every term present. -/
theorem headroomOf_le (own : Nat) (group pool : Option Nat) :
    headroomOf own group pool ≤ own ∧ (∀ x, group = some x → headroomOf own group pool ≤ x) ∧
      ∀ x, pool = some x → headroomOf own group pool ≤ x := by
  obtain ⟨ho, hg⟩ := minTerm_le own group
  obtain ⟨hm, hp⟩ := minTerm_le (minTerm own group) pool
  exact ⟨hm.trans ho, fun x hx => hm.trans (hg x hx), hp⟩

/-- R29: the headroom is one of the terms present. -/
theorem headroomOf_attained (own : Nat) (group pool : Option Nat) :
    headroomOf own group pool = own ∨ group = some (headroomOf own group pool) ∨
      pool = some (headroomOf own group pool) := by
  unfold headroomOf
  rcases minTerm_eq_or (minTerm own group) pool with h | h
  · rw [h]
    exact (minTerm_eq_or own group).imp_right .inl
  · exact .inr (.inr h)

/-- R29: the code names the first term, in the order OWN_LIMIT, GROUP_LIMIT, POOL_LIMIT, that gives the headroom. -/
theorem limitingTerm_iff (own : Nat) (group pool : Option Nat) :
    (limitingTerm own group pool = .ownLimit ↔ headroomOf own group pool = own) ∧
    (limitingTerm own group pool = .groupLimit ↔
      headroomOf own group pool ≠ own ∧ group = some (headroomOf own group pool)) ∧
    (limitingTerm own group pool = .poolLimit ↔
      headroomOf own group pool ≠ own ∧ group ≠ some (headroomOf own group pool)) := by
  unfold limitingTerm
  split
  · next ho => simp [← ho]
  · next ho =>
    have ho' := Ne.symm ho
    split
    · next hg => simp [ho', ← hg]
    · next hg => simp [ho', hg]

/-- Settles O9, from the lemmas on each term, on their least and on the limiting term. -/
theorem admissionTerms : Obligations.AdmissionTerms := by
  refine ⟨fun s a p => ⟨rfl, fun h => effectiveLimit_hard (by simp [h]), fun d h => effectiveLimit_hard (by simp [h]),
    fun soft h hs => ?_, fun h hs => ?_, fun h => ?_, fun h => ?_, groupHeadroom_of_no_parent s,
    fun n G g hp hG hg => ⟨fun hh => ?_, fun L hL => ?_⟩, fun h => ?_, fun h hf => ?_, fun h hf => ?_⟩, fun own group pool => ?_⟩
  · rw [effectiveLimit_lapsed h, hs, Option.getD_some]
  · rw [effectiveLimit_lapsed h, hs, Option.getD_none]
  · exact Nat.sub_add_cancel h
  · exact Nat.sub_eq_zero_of_le h
  · rw [groupHeadroom_of_parent hp hG hg, hh, Option.map_none]
  · exact ⟨L - effectiveUse G, by rw [groupHeadroom_of_parent hp hG hg, hL, Option.map_some], Nat.sub_add_cancel,
      Nat.sub_eq_zero_of_le⟩
  · simp [poolHeadroom, h]
  · simpa [poolHeadroom, h] using Nat.sub_add_cancel hf
  · simpa [poolHeadroom, h] using Nat.sub_eq_zero_of_le hf
  · obtain ⟨ho, hg, hp⟩ := headroomOf_le own group pool
    exact ⟨ho, hg, hp, headroomOf_attained own group pool, limitingTerm_iff own group pool⟩

/-! ## The quota state (R31) -/

theorem nextQuota_of_le {now standing : Nat} {p : Person} (h : standing ≤ softLimit p) : nextQuota now p standing = .under := by
  simp [nextQuota, h]

/-- Table 2-6: above the soft limit a state other than UNDER stays. -/
theorem nextQuota_stays {now standing : Nat} {p : Person} (h : softLimit p < standing) (hq : p.quota ≠ .under) :
    nextQuota now p standing = p.quota := by
  rw [nextQuota, if_neg (by omega)]
  split <;> simp_all

/-- Table 2-6: above the soft limit UNDER becomes OVER_SOFT with a grace period, and LAPSED without one. -/
theorem nextQuota_of_under {now standing : Nat} {p : Person} (h : softLimit p < standing) (hq : p.quota = .under) :
    nextQuota now p standing = if 0 < p.grace then .overSoft (deadlineAt now p.grace) else .lapsed := by
  rw [nextQuota, if_neg (by omega)]
  simp [hq]

theorem deadlineAt_of_le {now period : Nat} (h : now + period ≤ clockMax) : deadlineAt now period = now + period := if_pos h

/-- Settles O10, row by row of Table 2-6. -/
theorem quotaTransitions : Obligations.QuotaTransitions := by
  intro now standing p
  refine ⟨nextQuota_of_le, fun h hq hg hd => ?_, fun h hq hg => ?_, fun d h hq => ?_, fun h hq => ?_⟩
  · rw [nextQuota_of_under h hq, if_pos hg, deadlineAt_of_le hd]
  · rw [nextQuota_of_under h hq, if_neg (by omega)]
  · rw [nextQuota_stays h (by simp [hq]), hq]
  · rw [nextQuota_stays h (by simp [hq]), hq]

end Sys2Proof.Machine

/-! SUPPORT. What an answered turn leaves, for work of any result; and the queries (R39, R81, R170, R172). -/

namespace Sys2Proof.Machine

/-! ## The state that the work of a granted turn begins from -/

/-- R162, R166: the state after the grant of a turn to agent `a`. -/
def granted (s : State) (a : Nat) (rr : Bool) : State := { s with arb := grantedArb s a rr, sent := [] }

/-- R171: the state in which the work of a management request begins. -/
def begunMgmt (s : State) (rr : Bool) : State :=
  { s with arb := grantedArb s agentMG rr, sent := [], mlu := heldMgmt s }

/-- R157: the state in which the work of a head's request begins. -/
def begunHead (s : State) (h : HeadId) (rr : Bool) : State :=
  { s with arb := grantedArb s h.val rr, sent := [], heads := s.heads.set h (heldHead (s.heads.get h)) }

/-- R171: the tag of a request leaves use alike before and after a notice. -/
theorem toldMgmt_tags (o : Option Notice) (M : Mlu) (l : List Nat) :
    { toldMgmt o M with tags := l } = toldMgmt o { M with tags := l } ∧ (toldMgmt o M).tags = M.tags := by
  cases o with
  | none => exact ⟨rfl, rfl⟩
  | some n => by_cases h : M.notices.length < 32 <;> simp [toldMgmt, noticedMgmt, h]

/-- R32, R171: what a management turn leaves when its work gives `u` and the reply `c`, placing at most one notice on the
management link and sending nothing itself. -/
theorem mgmt_leaves_told {s : State} {tag : Nat} {r : Request} (h : Takes s .mgmt tag r) (work : State → State × Reply) :
    ∃ rr, winner s = some (agentMG, rr) ∧ ∃ t, managementTurn tag r work s = t ∧
      ∀ o u c, work (begunMgmt s rr) = (u, c) → u.mlu = toldMgmt o (heldMgmt s) → u.sent = [] →
        t = { u with mlu := toldMgmt o (tookMgmt s tag), arb := t.arb, sent := mgmtReply (requestKind r) tag c } := by
  obtain ⟨rr, hw, t, e, ht⟩ := mgmt_next h work
  refine ⟨rr, hw, t, e, fun o u c hu hm hs => ?_⟩
  change work { s with arb := grantedArb s agentMG rr, sent := [], mlu := heldMgmt s } = (u, c) at hu
  obtain ⟨htags, htag⟩ := toldMgmt_tags o (heldMgmt s) ((heldMgmt s).tags.erase tag)
  simp only [hu, hm, hs, htag, htags] at ht
  exact ht

/-- R171: what a management turn leaves when its work gives `u` and the reply `c`, and places and sends nothing itself. -/
theorem mgmt_leaves {s : State} {tag : Nat} {r : Request} (h : Takes s .mgmt tag r) (work : State → State × Reply) :
    ∃ rr, winner s = some (agentMG, rr) ∧ ∃ t, managementTurn tag r work s = t ∧
      ∀ u c, work (begunMgmt s rr) = (u, c) → u.mlu = heldMgmt s → u.sent = [] →
        t = { u with mlu := tookMgmt s tag, arb := t.arb, sent := mgmtReply (requestKind r) tag c } := by
  obtain ⟨rr, hw, t, e, ht⟩ := mgmt_leaves_told h work
  exact ⟨rr, hw, t, e, fun u c hu hm hs => ht none u c hu hm hs⟩

/-- R157: what an UP head's turn leaves when its work gives `u` and the reply `c`, and sends nothing itself. -/
theorem head_leaves {s : State} {h : HeadId} {tag : Nat} {r : Request} (kind : Nat) (ht : TakesUp s h tag r)
    (work : State → State × Reply) :
    ∃ rr, winner s = some (h.val, rr) ∧ ∃ t,
      requestTurn (.head h) tag r (fun i t => answer kind (.head h) i tag (work t).2 (work t).1) s = t ∧
      ∀ u c, work (begunHead s h rr) = (u, c) → u.heads = (begunHead s h rr).heads → u.sent = [] →
        t = { u with heads := s.heads.set h (tookHead tag (s.heads.get h)), arb := t.arb,
                     sent := headReply kind s h tag c } := by
  obtain ⟨rr, hw, e⟩ := requestTurn_next ht.1 (fun i t => answer kind (.head h) i tag (work t).2 (work t).1)
  refine ⟨rr, hw, _, e, fun u c hu hh hs => ?_⟩
  have hup : (u.heads.get h).link = .up ∧ (u.heads.get h).incarnation = (s.heads.get h).incarnation := by
    rw [hh]
    simpa [begunHead, heldHead] using ht.2.1
  change work { s with arb := grantedArb s h.val rr, sent := [], heads := s.heads.set h (heldHead (s.heads.get h)) } = (u, c) at hu
  rw [popRequest_head, ht.2.2, present_eq, agentOf]
  simp only [hu, answer_up hup, hs, hh, begunHead, Quad.set_set, Quad.get_set_self]
  rfl

/-! ## The arbiter after a grant (R165, R166) -/

theorem grantedArb_waiting (s : State) (a : Nat) (rr : Bool) :
    (grantedArb s a rr).waiting = mapTable (fun w => { w with age := w.age + 1 }) (unlist s.arb.waiting a) := rfl

theorem grantedArb_look_ne (s : State) {a b : Nat} (rr : Bool) (h : b ≠ a) :
    look (grantedArb s a rr).waiting b = (look s.arb.waiting b).map fun w => { w with age := w.age + 1 } := by
  rw [grantedArb_waiting, look_mapTable, look_unlist_ne _ h]

theorem grantedArb_look_self (s : State) (a : Nat) (rr : Bool) (h : Rising s.arb.waiting) :
    look (grantedArb s a rr).waiting a = none := by
  rw [grantedArb_waiting, look_mapTable, look_unlist_self _ h, Option.map_none]

/-! ## Queries -/

/-- R39, R81, R170, R172: a query on the management link changes that link's queue alone. -/
theorem mgmt_query {s : State} {tag : Nat} {r : Request} (h : Takes s .mgmt tag r) (reply : State → Reply) :
    ∃ rr, winner s = some (agentMG, rr) ∧ ∃ t, managementTurn tag r (fun t => (t, reply t)) s = t ∧
      t = { s with mlu := tookMgmt s tag, arb := t.arb,
                   sent := mgmtReply (requestKind r) tag (reply (begunMgmt s rr)) } := by
  obtain ⟨rr, hw, t, e, ht⟩ := mgmt_leaves h fun t => (t, reply t)
  exact ⟨rr, hw, t, e, ht (begunMgmt s rr) _ rfl rfl rfl⟩

/-- R39, R81: a query on a head's link changes that head's queue alone. -/
theorem head_query {s : State} {h : HeadId} {tag : Nat} {r : Request} (kind : Nat) (ht : TakesUp s h tag r)
    (reply : State → Reply) :
    ∃ rr t, requestTurn (.head h) tag r (fun i t => answer kind (.head h) i tag (reply t) t) s = t ∧
      t = { s with heads := s.heads.set h (tookHead tag (s.heads.get h)), arb := t.arb,
                   sent := headReply kind s h tag (reply (begunHead s h rr)) } := by
  obtain ⟨rr, -, t, e, ht⟩ := head_leaves kind ht fun t => (t, reply t)
  exact ⟨rr, t, e, ht (begunHead s h rr) _ rfl rfl rfl⟩

/-- R39: the reply of QUERY_ACCOUNT reads the accounts and the pool alone. -/
theorem accountReply_congr {s t : State} (ha : t.accounts = s.accounts) (hp : t.pool = s.pool) (n : Nat) :
    accountReply t n = accountReply s n := by
  simp only [accountReply, account?, termsOf, groupHeadroom, poolHeadroom, ha, hp]

/-- R81: the reply of QUERY_VOLUME reads the volumes and the seal queue alone. -/
theorem volumeReply_congr {s t : State} (hv : t.volumes = s.volumes) (he : t.epu = s.epu) (n : Nat) :
    volumeReply t n = volumeReply s n := by
  simp only [volumeReply, volume?, sealEntry?, hv, he]

/-- R39: the items of a QUERY_ACCOUNT reply, for an undefined number, a person and a group. -/
theorem accountReply_items (s : State) (n : Nat) :
    (account? s n = none → accountReply s n = .code .noAccount) ∧
    (∀ a p, account? s n = some a → a.body = .person p → accountReply s n = .account
      { account := n, body := .person p, percent := a.percent, figures := a.figures
        charge := retentionCharge a.figures.retained a.percent, use := standingUse a
        terms := some ⟨ownHeadroom a p, groupHeadroom s p, poolHeadroom s p⟩ }) ∧
    (∀ a g, account? s n = some a → a.body = .group g → accountReply s n = .account
      { account := n, body := .group g, percent := a.percent, figures := a.figures
        charge := retentionCharge a.figures.retained a.percent, use := effectiveUse a, terms := none }) := by
  refine ⟨fun h => ?_, fun a p h hb => ?_, fun a g h hb => ?_⟩
  · simp [accountReply, h]
  · simp [accountReply, h, hb, termsOf]
  · simp [accountReply, h, hb]

/-- R81: the items of a QUERY_VOLUME reply. -/
theorem volumeReply_items (s : State) (n : Nat) :
    (volume? s n = none → volumeReply s n = .code .noVolume) ∧
    (∀ V, volume? s n = some V → ∃ waiters, volumeReply s n = .volume
      { volume := n, openEpoch := V.openEpoch, lastSeal := V.lastSeal, keep := V.keep, spacing := V.spacing,
        nightly := V.nightly, channel := V.channel, shippedBase := V.shippedBase, shipMark := V.shipMark,
        needsRebase := V.needsRebase, held := V.held, chainCount := V.chainCount, catalogue := V.catalogue,
        waiters := waiters } ∧
      ((∀ e ∈ s.epu.sealQueue, e.volume ≠ n) → waiters = none) ∧
      (∀ e, s.epu.sealQueue.find? (fun d => d.volume = n) = some e → waiters = some e.waiters.length)) := by
  refine ⟨fun h => by simp [volumeReply, h], fun V h => ⟨(sealEntry? s n).map fun e => e.waiters.length, by simp only [volumeReply, h], fun hn => ?_, fun e he => ?_⟩⟩
  · rw [sealEntry?, List.find?_eq_none.mpr (by simpa using hn), Option.map_none]
  · rw [sealEntry?, he, Option.map_some]

/-- R113: there is no window time left while the window state or the window given is CLOSED. -/
theorem remainingWindow_of_closed {s : State} (h : s.clock.window = .closed ∨ s.given = .closed) :
    remainingWindow s = 0 := by
  rcases h with h | h <;> simp [remainingWindow, h]

/-- R113: with both OPEN, the window time left is that up to the close time. -/
theorem remainingWindow_of_open {s : State} (hw : s.clock.window = .open_) (hg : s.given = .open_) :
    remainingWindow s = (s.settings.windowClose + 86400 - s.clock.now % 86400) % 86400 := by
  unfold remainingWindow
  by_cases hc : s.clock.now % daySeconds = s.settings.windowClose
  · rw [if_neg (by simp [hc])]
    change s.clock.now % 86400 = _ at hc
    omega
  · rw [if_pos ⟨hw, hg, hc⟩]
    rfl

/-- R170: the agents of a QUERY_ARBITER reply, after the grant that took it. -/
theorem arbiterReply_agents (s : State) (rr : Bool) :
    ((arbiterReply (begunMgmt s rr)).agents).length = 9 ∧
    (Rising s.arb.waiting → (arbiterReply (begunMgmt s rr)).agents[4]? = some none) ∧
    ∀ a, a ≤ 8 → a ≠ 4 →
      (arbiterReply (begunMgmt s rr)).agents[a]? = some ((look s.arb.waiting a).map fun w => (w.cls, w.age + 1)) := by
  have at_ : ∀ a, a ≤ 8 → (arbiterReply (begunMgmt s rr)).agents[a]? =
      some ((look (grantedArb s agentMG rr).waiting a).map fun w => (w.cls, w.age)) := by
    intro a ha
    simp [arbiterReply, begunMgmt, List.getElem?_range (show a < 9 by omega)]
  refine ⟨by simp [arbiterReply], fun h => ?_, fun a ha hne => ?_⟩
  · rw [at_ 4 (by omega), show (4 : Nat) = agentMG from rfl, grantedArb_look_self s agentMG rr h, Option.map_none]
  · rw [at_ a ha, grantedArb_look_ne s rr (show a ≠ agentMG from hne), Option.map_map]
    rfl

/-- Settles O12: each query changes its link's queue alone, and its reply has the items of its rule. -/
theorem queriesReadOnly : Obligations.QueriesReadOnly := by
  intro s tag n
  dsimp only
  refine ⟨fun h => ?_, fun h => ?_, fun h => ?_, fun rr h hw => ?_, fun h ht => ?_, fun h ht => ?_⟩
  · obtain ⟨rr, -, t, e, ht⟩ := mgmt_query h (accountReply · n)
    exact ⟨t, _, congrArg _ e, ht, accountReply_congr (t := begunMgmt s rr) rfl rfl n ▸ accountReply_items s n⟩
  · obtain ⟨rr, -, t, e, ht⟩ := mgmt_query h (volumeReply · n)
    exact ⟨t, _, congrArg _ e, ht, volumeReply_congr (t := begunMgmt s rr) rfl rfl n ▸ volumeReply_items s n⟩
  · obtain ⟨rr, -, t, e, ht⟩ := mgmt_query h (fun t => .status (statusReply t))
    exact ⟨t, _, congrArg _ e, ht, remainingWindow s, rfl, remainingWindow_of_closed, remainingWindow_of_open⟩
  · obtain ⟨rr', hw', t, e, ht⟩ := mgmt_query h (fun t => .arbiter (arbiterReply t))
    obtain rfl : rr' = rr := by simpa [agentMG] using hw'.symm.trans hw
    exact ⟨t, _, congrArg _ e, ht, _, rfl, arbiterReply_agents s rr'⟩
  · obtain ⟨rr, t, e, ht⟩ := head_query 0x17 ht (accountReply · n)
    exact ⟨t, _, congrArg _ e, ht, accountReply_congr (t := begunHead s h rr) rfl rfl n ▸ accountReply_items s n⟩
  · obtain ⟨rr, t, e, ht⟩ := head_query 0x18 ht (volumeReply · n)
    exact ⟨t, _, congrArg _ e, ht, volumeReply_congr (t := begunHead s h rr) rfl rfl n ▸ volumeReply_items s n⟩

end Sys2Proof.Machine

/-! SUPPORT. Chapter 2: notices of a quota state, figures of a person and its group, and the administration of accounts. -/

namespace Sys2Proof.Machine

/-! ## Notices for the heads and the management link (R32, R160) -/

/-- R160: a notice placed for one head. -/
theorem placeHead_get (h g : HeadId) (n : Notice) (s : State) : (placeHead h n s).heads.get g =
    if g = h ∧ (s.heads.get g).link = .up then noticed n (s.heads.get g) else s.heads.get g := by
  unfold placeHead
  by_cases hg : g = h
  · subst hg
    split <;> simp_all [noticed]
  · split <;> simp [hg]

/-- R160: a notice placed for the management processor. -/
theorem placeMl_mlu (n : Notice) (s : State) : (placeMl n s).mlu = noticedMgmt n s.mlu := by
  unfold placeMl noticedMgmt
  split <;> rfl

/-- R32: notices placed for the selected heads of a list. -/
theorem placeHeads_get (f : Head → Bool) (n : Notice) (g : HeadId) (l : List HeadId) (hl : l.Nodup) (s : State) :
    (l.foldl (fun s h => if f (s.heads.get h) then placeHead h n s else s) s).heads.get g =
      if g ∈ l ∧ (s.heads.get g).link = .up ∧ f (s.heads.get g) = true then noticed n (s.heads.get g)
      else s.heads.get g := by
  induction l generalizing s with
  | nil => simp
  | cons a l ih =>
    obtain ⟨hal, hl⟩ := List.nodup_cons.mp hl
    rw [List.foldl_cons, ih hl]
    by_cases hg : g = a
    · subst hg
      by_cases hf : f (s.heads.get g) = true <;> simp [hal, hf, placeHead_get]
    · have : (if f (s.heads.get a) = true then placeHead a n s else s).heads.get g = s.heads.get g := by
        split <;> simp [placeHead_get, hg]
      simp [this, hg]

/-- R32: a broadcast of ACCOUNT_STATE tells every UP head that selects the kind. -/
theorem broadcast_heads (n : Notice) (s : State) (h : HeadId) :
    (broadcast (·.selectAccount) n s).heads.get h = toldHead (some n) (s.heads.get h) := by
  have hin : h ∈ four := by fin_cases h <;> simp [four]
  simp [broadcast, placeHeads_get _ _ _ four (by decide), hin, toldHead]

/-- R32: placing notices for heads leaves the management link. -/
theorem placeHeads_mlu (f : Head → Bool) (n : Notice) (l : List HeadId) (s : State) :
    (l.foldl (fun s h => if f (s.heads.get h) then placeHead h n s else s) s).mlu = s.mlu := by
  induction l generalizing s with
  | nil => rfl
  | cons a l ih => rw [List.foldl_cons, ih]; split <;> simp

/-- R32: a broadcast tells the management processor. -/
theorem broadcast_mlu (f : Head → Bool) (n : Notice) (s : State) : (broadcast f n s).mlu = noticedMgmt n s.mlu := by
  rw [broadcast, placeMl_mlu, placeHeads_mlu]

/-! ## Re-evaluation of a quota state (R31) -/

theorem setQuota_look (n m : Nat) (a : Account) (p : Person) (q : Quota) (s : State) :
    look (setQuota n a p q s).accounts m = if m = n
      then (look s.accounts m).map fun a => { a with body := .person { p with quota := q } } else look s.accounts m := by
  simp [setQuota]

theorem setQuota_heads (n : Nat) (a : Account) (p : Person) (q : Quota) (s : State) (h : HeadId) :
    (setQuota n a p q s).heads.get h =
      toldHead (some (.accountState n p.quota.name q (standingUse a) (softLimit p))) (s.heads.get h) := by
  simp [setQuota, broadcast_heads]

theorem setQuota_mlu (n : Nat) (a : Account) (p : Person) (q : Quota) (s : State) :
    (setQuota n a p q s).mlu = noticedMgmt (.accountState n p.quota.name q (standingUse a) (softLimit p)) s.mlu := by
  simp [setQuota, broadcast_mlu]

/-- R31: the notice of the re-evaluation of a person whose record is `a`. -/
def quotaNotice (now n : Nat) (a : Account) (p : Person) : Option Notice :=
  stateNotice n p.quota (nextQuota now p (standingUse a)) (standingUse a) (softLimit p)

theorem reevaluate_of_none {s : State} {n : Nat} (h : look s.accounts n = none) : reevaluate n s = s := by
  simp [reevaluate, h]

theorem reevaluate_of_group {s : State} {n : Nat} {a : Account} {g : Group} (h : look s.accounts n = some a)
    (hb : a.body = .group g) : reevaluate n s = s := by
  simp [reevaluate, h, hb]

/-- R31, R32: the re-evaluation of a person, said once: its record, the heads and the management link. -/
theorem reevaluate_person {s : State} {n : Nat} {a : Account} {p : Person} (h : look s.accounts n = some a)
    (hb : a.body = .person p) :
    (∀ m, look (reevaluate n s).accounts m = if m = n
      then some { a with body := .person { p with quota := nextQuota s.clock.now p (standingUse a) } }
      else look s.accounts m) ∧
    (∀ i, (reevaluate n s).heads.get i = toldHead (quotaNotice s.clock.now n a p) (s.heads.get i)) ∧
    (reevaluate n s).mlu = toldMgmt (quotaNotice s.clock.now n a p) s.mlu := by
  by_cases hq : nextQuota s.clock.now p (standingUse a) = p.quota
  · have hs : reevaluate n s = s := by simp [reevaluate, h, hb, hq]
    have hn : quotaNotice s.clock.now n a p = none := if_pos hq
    rw [hs, hn, hq]
    refine ⟨fun m => ?_, fun i => rfl, rfl⟩
    split
    · next hm => rw [hm, h, ← hb]
    · rfl
  · have hs : reevaluate n s = setQuota n a p (nextQuota s.clock.now p (standingUse a)) s := by
      simp [reevaluate, h, hb, hq]
    have hn : quotaNotice s.clock.now n a p = some (.accountState n p.quota.name
        (nextQuota s.clock.now p (standingUse a)) (standingUse a) (softLimit p)) := if_neg hq
    rw [hs, hn]
    refine ⟨fun m => ?_, setQuota_heads n a p _ s, setQuota_mlu n a p _ s⟩
    rw [setQuota_look]
    split
    · next hm => rw [hm, h, Option.map_some]
    · rfl

/-! ## Records of accounts -/

theorem account?_of_pos (s : State) {n : Nat} (h : n ≠ 0) : account? s n = look s.accounts n := if_neg h

/-- R18: a defined account has its record listed. -/
theorem look_of_account? {s : State} {n : Nat} {a : Account} (h : account? s n = some a) :
    look s.accounts n = some a := by
  unfold account? at h
  split at h
  · cases h
  · exact h

theorem isGroup_iff {s : State} {n : Nat} :
    isGroup s n = true ↔ ∃ a g, account? s n = some a ∧ a.body = .group g := by
  unfold isGroup
  split
  · next g _ _ _ h => exact ⟨fun _ => ⟨_, g, h, rfl⟩, fun _ => rfl⟩
  · next h =>
    refine ⟨fun hf => absurd hf Bool.false_ne_true, ?_⟩
    rintro ⟨⟨b, _, _, _⟩, g, ha, rfl⟩
    exact absurd ha (h g _ _ _)

theorem isGroup_of_person {s : State} {n : Nat} {a : Account} {p : Person} (h : account? s n = some a)
    (hb : a.body = .person p) : isGroup s n = false := by
  refine Bool.eq_false_iff.mpr fun hg => ?_
  obtain ⟨b, g, hb', hg⟩ := isGroup_iff.mp hg
  simp_all

/-- R20: what a change of a group's member count does to each record. -/
theorem changeMembers_look (g : Option Nat) (f : Nat → Nat) (s : State) (m : Nat) :
    look (changeMembers g f s).accounts m =
      if g = some m then (look s.accounts m).map (withMembers f) else look s.accounts m := by
  cases g with
  | none => rfl
  | some g =>
    simp only [changeMembers, modifyAccount_look, Option.some.injEq, eq_comm (a := g)]
    rfl

/-- R20: a change of a member count is a change of the accounts. -/
theorem changeMembers_eq (g : Option Nat) (f : Nat → Nat) (s : State) :
    changeMembers g f s = { s with accounts := (changeMembers g f s).accounts } := by
  cases g <;> rfl

/-- R37: what a change of a group's aggregates does to each record. -/
theorem changeAggregates_look (g : Option Nat) (f : Figures → Figures) (s : State) (m : Nat) :
    look (changeAggregates g f s).accounts m =
      if g = some m then (look s.accounts m).map fun a => { a with figures := f a.figures } else look s.accounts m := by
  cases g with
  | none => rfl
  | some g => simp only [changeAggregates, modifyAccount_look, Option.some.injEq, eq_comm (a := g)]

theorem changeAggregates_eq (g : Option Nat) (f : Figures → Figures) (s : State) :
    changeAggregates g f s = { s with accounts := (changeAggregates g f s).accounts } := by
  cases g <;> rfl

/-- R171: what a management turn leaves whose work changes the accounts alone, or nothing. -/
theorem mgmt_leaves_accounts {s : State} {tag : Nat} {r : Request} (h : Takes s .mgmt tag r)
    (work : State → State × Reply) :
    ∃ rr t, managementTurn tag r work s = t ∧
      (∀ c, work (begunMgmt s rr) = (begunMgmt s rr, c) →
        t = { s with mlu := tookMgmt s tag, arb := t.arb, sent := mgmtReply (requestKind r) tag c }) ∧
      ∀ accounts c, work (begunMgmt s rr) = ({ begunMgmt s rr with accounts := accounts }, c) →
        t = { s with accounts := t.accounts, mlu := tookMgmt s tag, arb := t.arb,
                     sent := mgmtReply (requestKind r) tag c } ∧ t.accounts = accounts := by
  obtain ⟨rr, -, t, e, ht⟩ := mgmt_leaves h work
  refine ⟨rr, t, e, fun c hc => ht (begunMgmt s rr) c hc rfl rfl, fun accounts c hc => ?_⟩
  have hmade := ht _ c hc rfl rfl
  have hacc : t.accounts = accounts := congrArg State.accounts hmade
  exact ⟨by rw [hacc]; exact hmade, hacc⟩

/-! ## CREATE_ACCOUNT (R35) -/

theorem createCheck_badArgument {s : State} {n : Nat} {kind : AccountKind} {x : AccountSettings} {parent : Option Nat}
    (h : n = 0 ∨ (kind = .person ∧ x.hard = none)) : createCheck s n kind x parent = some .badArgument := by
  unfold createCheck
  rw [if_pos (h.imp_right .inr)]

section CreateChecks
variable {s : State} {n : Nat} {x : AccountSettings} (h1 : 1 ≤ n) (h2 : n ≤ 65535)
include h1 h2

theorem createCheck_exists {kind : AccountKind} {parent : Option Nat} (hh : kind = .person → x.hard ≠ none)
    (hd : look s.accounts n ≠ none) : createCheck s n kind x parent = some .exists_ := by
  unfold createCheck
  rw [if_neg, if_pos]
  · rwa [account?_of_pos s (by omega), Option.isSome_iff_ne_none]
  · rintro (h | h | ⟨hk, h⟩)
    · omega
    · omega
    · exact hh hk h

/-- R35: the check of a new group under a free number. -/
theorem createCheck_group {parent : Option Nat} (hd : look s.accounts n = none) :
    createCheck s n .group x parent = if 4096 ≤ groupCount s then some .groupsFull else none := by
  simp [createCheck, account?_of_pos s (show n ≠ 0 by omega), hd, show n ≠ 0 by omega, show ¬ 65535 < n by omega]

/-- R35: the check of a new person without a parent group under a free number. -/
theorem createCheck_orphan (hh : x.hard ≠ none) (hd : look s.accounts n = none) :
    createCheck s n .person x none = none := by
  simp [createCheck, account?_of_pos s (show n ≠ 0 by omega), hd, hh, show n ≠ 0 by omega, show ¬ 65535 < n by omega]

/-- R35: the checks of a new person with a parent group under a free number. -/
theorem createCheck_member (hh : x.hard ≠ none) (hd : look s.accounts n = none) (g : Nat) :
    createCheck s n .person x (some g) =
      if account? s g = none then some .noAccount else if isGroup s g then none else some .notGroup := by
  simp [createCheck, account?_of_pos s (show n ≠ 0 by omega), hd, hh, show n ≠ 0 by omega, show ¬ 65535 < n by omega]

end CreateChecks

theorem doCreateAccount_refused {s : State} {n : Nat} {kind : AccountKind} {x : AccountSettings} {parent : Option Nat}
    {c : Code} (h : createCheck s n kind x parent = some c) : doCreateAccount n kind x parent s = (s, .code c) := by
  simp [doCreateAccount, h]

/-- R35: what an accepted CREATE_ACCOUNT of a person makes. -/
theorem doCreateAccount_person {s : State} {n : Nat} {x : AccountSettings} {parent : Option Nat}
    (h : createCheck s n .person x parent = none) : doCreateAccount n .person x parent s =
      ({ s with accounts := (changeMembers parent (· + 1)
        { s with accounts := put s.accounts n (newAccount .person (clampSettings x) parent) }).accounts },
       .accountCreated (clampSettings x) parent) := by
  rw [doCreateAccount, h]
  exact congrArg (·, _) (changeMembers_eq ..)

/-- R35: what an accepted CREATE_ACCOUNT of a group makes. -/
theorem doCreateAccount_group {s : State} {n : Nat} {x : AccountSettings} {parent : Option Nat}
    (h : createCheck s n .group x parent = none) : doCreateAccount n .group x parent s =
      ({ s with accounts := put s.accounts n (newAccount .group (storedSettings .group x) parent) },
       .accountCreated (storedSettings .group x) none) := by
  simp [doCreateAccount, h, changeMembers]

/-- R35: the settings stored for a person whose request has the hard limit `hard`. -/
def boundedSettings (hard : Nat) (x : AccountSettings) : AccountSettings :=
  ⟨some (min hard maxCapacity), x.soft.map fun y => min y (min hard maxCapacity), min x.grace 2592000,
    min x.percent 100, x.service⟩

theorem clampSettings_of_hard {x : AccountSettings} {hard : Nat} (h : x.hard = some hard) :
    clampSettings x = boundedSettings hard x := by
  simp only [boundedSettings, clampSettings, h, Option.map_some, Option.getD_some, min_comm maxCapacity]
  congr 2
  exact funext fun y => min_comm _ y

/-- R35: the hard limit stored for a group. -/
theorem storedSettings_group_hard (x : AccountSettings) :
    (storedSettings .group x).hard = x.hard.map fun y => min y maxCapacity :=
  congrArg (x.hard.map ·) (funext fun y => min_comm _ y)

/-- Settles O33: the checks in their order, and the record that an accepted CREATE_ACCOUNT lists. -/
theorem accountCreated : Obligations.AccountCreated := by
  intro s tag n kind x parent h
  obtain ⟨rr, t, e, same, ht⟩ := mgmt_leaves_accounts h (doCreateAccount n kind x parent)
  have refused : ∀ c, createCheck s n kind x parent = some c →
      t = { s with mlu := tookMgmt s tag, arb := t.arb, sent := mgmtReply 0x46 tag (.code c) } :=
    fun c hc => same _ (doCreateAccount_refused hc)
  refine ⟨t, congrArg _ e, fun hb => refused _ (createCheck_badArgument hb),
    fun h1 h2 hh hd => refused _ (createCheck_exists h1 h2 hh hd), ?_, ?_, ?_, ?_, ?_⟩
  · rintro h1 h2 rfl hd hg
    exact refused _ ((createCheck_group h1 h2 hd).trans (if_pos hg))
  · rintro g h1 h2 rfl hh hd rfl hg
    exact refused _ ((createCheck_member h1 h2 hh hd g).trans (if_pos hg))
  · rintro g b p h1 h2 rfl hh hd rfl hg hb
    refine refused _ ((createCheck_member h1 h2 hh hd g).trans ?_)
    rw [if_neg (by simp [hg]), isGroup_of_person hg hb, if_neg Bool.false_ne_true]
  · rintro hard h1 h2 rfl hh hd hpar
    have hc : createCheck s n .person x parent = none := by
      cases parent with
      | none => exact createCheck_orphan h1 h2 (by simp [hh]) hd
      | some g =>
        obtain ⟨b, gr, hb, -⟩ := isGroup_iff.mp (hpar g rfl)
        rw [createCheck_member h1 h2 (by simp [hh]) hd, if_neg (by simp [hb]), if_pos (hpar g rfl)]
    have hn : parent ≠ some n := by
      rintro rfl
      obtain ⟨b, gr, hb, -⟩ := isGroup_iff.mp (hpar n rfl)
      simp [look_of_account? hb] at hd
    obtain ⟨hmade, hacc⟩ := ht _ _ (doCreateAccount_person hc)
    rw [clampSettings_of_hard hh] at hmade hacc
    refine ⟨hmade, ?_, fun m hm => ?_⟩
    · rw [hacc, changeMembers_look, if_neg hn, look_put_self]
      rfl
    · rw [hacc, changeMembers_look, look_put_ne _ _ hm]
      rfl
  · rintro h1 h2 rfl hd hg
    have hc : createCheck s n .group x parent = none := by
      rw [createCheck_group h1 h2 hd, if_neg (by omega)]
    obtain ⟨hmade, hacc⟩ := ht _ _ (doCreateAccount_group hc)
    refine ⟨⟨storedSettings .group x, storedSettings_group_hard x, rfl, hmade⟩, ?_, fun m hm => ?_⟩
    · rw [hacc, look_put_self, newAccount, storedSettings_group_hard]
      rfl
    · rw [hacc, look_put_ne _ _ hm]
      rfl

end Sys2Proof.Machine

/-! SUPPORT. Chapter 2: SET_LIMITS, SET_PARENT, DELETE_ACCOUNT, the grace hold and the grace lapse. -/

namespace Sys2Proof.Machine

/-! ## SET_LIMITS (R36) -/

theorem doSetLimits_undefined {s : State} {n : Nat} (x : AccountSettings) (h : account? s n = none) :
    doSetLimits n x s = (s, .code .noAccount) := by
  simp [doSetLimits, h]

/-- R36: new settings of a group. -/
theorem doSetLimits_group {s : State} {n : Nat} {a : Account} {g : Group} (x : AccountSettings)
    (h : account? s n = some a) (hb : a.body = .group g) : doSetLimits n x s =
      ({ s with accounts := adjust (fun b => { b with
          body := .group { g with hard := (storedSettings .group x).hard }
          percent := (storedSettings .group x).percent }) s.accounts n },
       .accountStored (storedSettings .group x)) := by
  simp [doSetLimits, h, hb, modifyAccount]

theorem doSetLimits_badArgument {s : State} {n : Nat} {a : Account} {p : Person} {x : AccountSettings}
    (h : account? s n = some a) (hb : a.body = .person p) (hh : x.hard = none) :
    doSetLimits n x s = (s, .code .badArgument) := by
  simp [doSetLimits, h, hb, hh]

/-- R36: a person's record with its limits replaced, before the re-evaluation. -/
def limited (n : Nat) (p : Person) (y : AccountSettings) (s : State) : State :=
  modifyAccount n (fun b => { b with body := .person (personLimits p y), percent := y.percent }) s

/-- R36: whether new limits leave a person's hard limit, soft limit and percent as they are. -/
def limitsKept (a : Account) (p : Person) (y : AccountSettings) : Bool :=
  p.hard = y.hard.getD 0 ∧ p.soft = y.soft ∧ a.percent = y.percent

/-- R36: a person's record with its limits replaced, re-evaluated unless they were kept. -/
def relimited (n : Nat) (p : Person) (y : AccountSettings) (kept : Bool) (s : State) : State :=
  if kept then limited n p y s else reevaluate n (limited n p y s)

/-- R31, R36: the person under new limits, with the quota state that a standing use gives unless they were kept. -/
def relimitedPerson (now : Nat) (p : Person) (y : AccountSettings) (kept : Bool) (standing : Nat) : Person :=
  { personLimits p y with quota := if kept then p.quota else nextQuota now (personLimits p y) standing }

theorem doSetLimits_person {s : State} {n : Nat} {a : Account} {p : Person} {x : AccountSettings}
    (h : account? s n = some a) (hb : a.body = .person p) (hh : x.hard ≠ none) : doSetLimits n x s =
      (relimited n p (clampSettings x) (limitsKept a p (clampSettings x)) s, .accountStored (clampSettings x)) := by
  simp only [doSetLimits, h, hb, if_neg hh, storedSettings]
  exact congrArg (·, _) (if_congr decide_eq_true_iff.symm rfl rfl)

/-- R36: the record of the person with its limits replaced. -/
theorem limited_look {s : State} {n : Nat} {a : Account} (p : Person) (y : AccountSettings)
    (h : look s.accounts n = some a) (m : Nat) : look (limited n p y s).accounts m = if m = n
      then some { a with body := .person (personLimits p y), percent := y.percent } else look s.accounts m := by
  rw [limited, modifyAccount_look]
  split
  · next hm => rw [hm, h, Option.map_some]
  · rfl

/-- R31, R32, R36: what new limits leave of the records, the heads and the management link. -/
theorem relimited_outcome {s : State} {n : Nat} {a : Account} (p : Person) (y : AccountSettings) (kept : Bool)
    {standing : Nat} (h : look s.accounts n = some a)
    (hs : standing = a.figures.used + retentionCharge a.figures.retained y.percent) {q : Person}
    (hq : q = relimitedPerson s.clock.now p y kept standing) :
    (∀ m, look (relimited n p y kept s).accounts m = if m = n
      then some { a with body := .person q, percent := y.percent } else look s.accounts m) ∧
    (∀ i, (relimited n p y kept s).heads.get i =
      toldHead (stateNotice n p.quota q.quota standing (softLimit q)) (s.heads.get i)) ∧
    (relimited n p y kept s).mlu = toldMgmt (stateNotice n p.quota q.quota standing (softLimit q)) s.mlu ∧
    relimited n p y kept s = { s with
      accounts := (relimited n p y kept s).accounts, heads := (relimited n p y kept s).heads,
      mlu := (relimited n p y kept s).mlu } := by
  subst hs hq
  cases kept with
  | true =>
    have hn : ∀ standing soft, stateNotice n p.quota p.quota standing soft = none := fun _ _ => if_pos rfl
    refine ⟨limited_look p y h, fun i => ?_, ?_, rfl⟩
    · exact congrArg (toldHead · (s.heads.get i)) (hn _ _).symm
    · exact congrArg (toldMgmt · s.mlu) (hn _ _).symm
  | false =>
    have hl : look (limited n p y s).accounts n = some { a with body := .person (personLimits p y), percent := y.percent } := by
      rw [limited_look p y h, if_pos rfl]
    obtain ⟨hacc, hheads, hmlu⟩ := reevaluate_person hl rfl
    refine ⟨fun m => ?_, hheads, hmlu, reevaluate_eq ..⟩
    rw [relimited, if_neg Bool.false_ne_true, hacc]
    split
    · rfl
    · next hm => rw [limited_look p y h, if_neg hm]

/-- Settles O34: the refusals, the settings of a group, and a person's limits with the re-evaluation they may need. -/
theorem limitsSet : Obligations.LimitsSet := by
  intro s tag n x h
  obtain ⟨rr, -, t, e, ht⟩ := mgmt_leaves_told h (doSetLimits n x)
  refine ⟨t, congrArg _ e, fun hn => ?_, fun a g ha hb => ?_, fun a p ha hb hh => ?_, fun a p hard ha hb hh => ?_⟩
  · exact ht none (begunMgmt s rr) _ (doSetLimits_undefined x hn) rfl rfl
  · have hmade := ht none _ _ (doSetLimits_group (s := begunMgmt s rr) x ha hb) rfl rfl
    have hacc := congrArg State.accounts hmade
    refine ⟨⟨storedSettings .group x, storedSettings_group_hard x, rfl, ?_⟩, ?_, fun m hm => ?_⟩
    · rw [hacc]; exact hmade
    · rw [hacc, look_adjust, if_pos rfl, storedSettings_group_hard]
      change (look s.accounts n).map _ = _
      rw [look_of_account? ha]
      rfl
    · rw [hacc, look_adjust, if_neg hm]
      rfl
  · exact ht none (begunMgmt s rr) _ (doSetLimits_badArgument ha hb hh) rfl rfl
  · have hwork := doSetLimits_person (s := begunMgmt s rr) (x := x) ha hb (by simp [hh])
    rw [clampSettings_of_hard hh] at hwork
    obtain ⟨hacc, hheads, hmlu, hframe⟩ := relimited_outcome (s := begunMgmt s rr) p _ (limitsKept a p (boundedSettings hard x))
      (look_of_account? ha) rfl rfl
    have hmade := ht _ _ _ hwork hmlu (congrArg State.sent hframe)
    refine ⟨?_, fun m hm => ?_, relimitedPerson s.clock.now p (boundedSettings hard x)
      (limitsKept a p (boundedSettings hard x))
      (a.figures.used + retentionCharge a.figures.retained (min x.percent 100)), rfl, rfl, rfl, rfl, rfl, ?_, ?_, ⟨?_, fun i => ?_⟩, fun hk => ?_, fun hk => ?_⟩
    · rw [hmade, hframe]; rfl
    · rw [hmade]; exact (hacc m).trans (if_neg hm)
    · rw [hmade]; rfl
    · rw [hmade]; exact (hacc n).trans (if_pos rfl)
    · rw [hmade]; rfl
    · rw [hmade]; exact hheads i
    · exact if_pos (decide_eq_true hk)
    · exact if_neg fun hkept => hk (of_decide_eq_true hkept)

/-! ## SET_PARENT (R37) -/

theorem parentCheck_noAccount {s : State} {n : Nat} {parent : Option Nat}
    (h : account? s n = none ∨ ∃ g, parent = some g ∧ account? s g = none) : parentCheck s n parent = some .noAccount := by
  rcases h with h | ⟨g, rfl, h⟩
  · simp [parentCheck, h]
  · cases hn : account? s n <;> simp [parentCheck, hn, h]

/-- R37: the checks of a SET_PARENT where both numbers are defined. -/
theorem parentCheck_defined {s : State} {n : Nat} {a : Account} {parent : Option Nat} (h : account? s n = some a)
    (hp : ∀ m, parent = some m → account? s m ≠ none) :
    (∀ g, a.body = .group g → parentCheck s n parent = some .notPerson) ∧
    (∀ p m, a.body = .person p → parent = some m → isGroup s m = false → parentCheck s n parent = some .notGroup) ∧
    (∀ p, a.body = .person p → (∀ m, parent = some m → isGroup s m = true) → parentCheck s n parent = none) := by
  cases parent with
  | none => exact ⟨fun g hb => by simp [parentCheck, h, hb], by simp, fun p hb _ => by simp [parentCheck, h, hb]⟩
  | some m =>
    have hm : (account? s m).isNone = false := by simpa [Option.isSome_iff_ne_none] using hp m rfl
    refine ⟨fun g hb => by simp [parentCheck, h, hb, hm], ?_, fun p hb hg => by simp [parentCheck, h, hb, hm, hg m rfl]⟩
    rintro p _ hb ⟨rfl⟩ hg
    simp [parentCheck, h, hb, hm, hg]

theorem doSetParent_refused {s : State} {n : Nat} {parent : Option Nat} {c : Code} (h : parentCheck s n parent = some c) :
    doSetParent n parent s = (s, .code c) := by
  simp [doSetParent, h]

theorem doSetParent_person {s : State} {n : Nat} {a : Account} {p : Person} {parent : Option Nat}
    (hc : parentCheck s n parent = none) (h : account? s n = some a) (hb : a.body = .person p) :
    doSetParent n parent s = (if p.parent = parent then s else moveParent n a p parent s, .code .ok) := by
  simp only [doSetParent, hc, h, hb]
  split <;> rfl

/-- R37: a move of a person changes the accounts alone. -/
theorem moveParent_eq (n : Nat) (a : Account) (p : Person) (parent : Option Nat) (s : State) :
    moveParent n a p parent s = { s with accounts := (moveParent n a p parent s).accounts } := by
  simp only [moveParent, modifyAccount]
  rw [changeMembers_eq, changeAggregates_eq, changeMembers_eq, changeAggregates_eq]

/-- R37: what a move of a person does to each record. -/
theorem moveParent_look {s : State} {n : Nat} {a : Account} {p : Person} {parent : Option Nat}
    (h : look s.accounts n = some a) (hold : p.parent ≠ some n) (hnew : parent ≠ some n) (hne : p.parent ≠ parent)
    (m : Nat) : look (moveParent n a p parent s).accounts m =
      if m = n then some { a with body := .person { p with parent := parent } }
      else if parent = some m then (look s.accounts m).map (joinedBy a.figures)
      else if p.parent = some m then (look s.accounts m).map (leftBy a.figures)
      else look s.accounts m := by
  simp only [moveParent, modifyAccount_look, changeMembers_look, changeAggregates_look]
  by_cases hm : m = n
  · subst hm
    simp [hold, hnew, h]
  · by_cases hj : parent = some m
    · have hl : p.parent ≠ some m := fun hl => hne (hl.trans hj.symm)
      simp [hm, hj, hl, Function.comp_def]
      rfl
    · by_cases hl : p.parent = some m
      · simp [hm, hj, hl, Function.comp_def]
        rfl
      · simp [hm, hj, hl]

/-- Settles O35: the refusals, and the move of a person between groups. -/
theorem parentSet : Obligations.ParentSet := by
  intro s tag n parent h
  obtain ⟨rr, t, e, same, ht⟩ := mgmt_leaves_accounts h (doSetParent n parent)
  have refused : ∀ c, parentCheck s n parent = some c →
      t = { s with mlu := tookMgmt s tag, arb := t.arb, sent := mgmtReply 0x48 tag (.code c) } :=
    fun c hc => same _ (doSetParent_refused hc)
  refine ⟨t, congrArg _ e, fun hn => refused _ (parentCheck_noAccount hn), fun a g ha hb hp => ?_,
    fun a p m b q ha hb hm hg hq => ?_, fun a p ha hb hg => ?_⟩
  · exact refused _ ((parentCheck_defined ha hp).1 g hb)
  · have hp : ∀ k, parent = some k → account? s k ≠ none := by
      rintro k hk
      obtain rfl : m = k := by simpa [hm] using hk
      simp [hg]
    exact refused _ ((parentCheck_defined ha hp).2.1 p m hb hm (isGroup_of_person hg hq))
  · have hp : ∀ k, parent = some k → account? s k ≠ none := by
      intro k hk
      obtain ⟨b, g, hb', -⟩ := isGroup_iff.mp (hg k hk)
      simp [hb']
    have hc : parentCheck s n parent = none := (parentCheck_defined ha hp).2.2 p hb hg
    have hwork := doSetParent_person (s := begunMgmt s rr) hc ha hb
    refine ⟨fun hsame => same _ (by rw [hwork, if_pos hsame]), fun hne hold => ?_⟩
    have hnew : parent ≠ some n := by
      intro hn
      have := hg n hn
      rw [isGroup_of_person ha hb] at this
      exact absurd this Bool.false_ne_true
    rw [if_neg hne, moveParent_eq] at hwork
    obtain ⟨hmade, hacc⟩ := ht _ _ hwork
    have hlook := moveParent_look (s := begunMgmt s rr) (look_of_account? ha) hold hnew hne
    rw [← hacc] at hlook
    exact ⟨hmade, (hlook n).trans (if_pos rfl), fun m hm => (hlook m).trans (if_neg hm)⟩

/-! ## DELETE_ACCOUNT (R38) -/

theorem doDeleteAccount_undefined {s : State} {n : Nat} (h : account? s n = none) :
    doDeleteAccount n s = (s, .code .noAccount) := by
  simp [doDeleteAccount, h]

theorem doDeleteAccount_busy {s : State} {n : Nat} {a : Account} (h : account? s n = some a)
    (hb : accountBusy s n a = true) : doDeleteAccount n s = (s, .code .notEmpty) := by
  simp [doDeleteAccount, h, hb]

theorem doDeleteAccount_free {s : State} {n : Nat} {a : Account} (h : account? s n = some a)
    (hb : accountBusy s n a = false) : doDeleteAccount n s =
      ({ s with accounts := (changeMembers (parentOf a) (· - 1) { s with accounts := unlist s.accounts n }).accounts },
        .code .ok) := by
  simp only [doDeleteAccount, h, hb, Bool.false_eq_true, if_false]
  exact congrArg (·, _) (changeMembers_eq ..)

/-- R38: a person may not be removed while a figure is above 0 or a restore context targets it. -/
theorem accountBusy_person {s : State} {n : Nat} {a : Account} {p : Person} (hb : a.body = .person p) :
    accountBusy s n a = true ↔ a.figures ≠ ⟨0, 0, 0, 0⟩ ∨ ∃ c ∈ s.rsq.contexts, c.target = n := by
  simp [accountBusy, hb]

theorem accountBusy_group {s : State} {n : Nat} {a : Account} {g : Group} (hb : a.body = .group g) :
    accountBusy s n a = true ↔ 0 < g.members := by
  simp [accountBusy, hb]

/-- Removing a listed record that a filter keeps takes one from what it keeps. -/
theorem filter_unlist_length {α : Type} (P : Nat × α → Bool) {t : Table α} {n : Nat} {a : α} (h : look t n = some a)
    (hP : P (n, a) = true) : ((unlist t n).filter P).length + 1 = (t.filter P).length := by
  induction t with
  | nil => cases h
  | cons kv t ih =>
    obtain ⟨k, v⟩ := kv
    by_cases hn : n = k
    · subst hn
      obtain rfl : v = a := by simpa [look] using h
      simp [unlist, hP]
    · have hrest := ih (by simpa [look, hn] using h)
      rw [unlist, if_neg hn]
      cases hkv : P (k, v)
      · simpa [hkv] using hrest
      · simpa [hkv] using hrest

/-- R38: what the removal of an account leaves of each record, for a table in canonical form. -/
theorem deleted_look {s : State} {n : Nat} (g : Option Nat) (hr : Rising s.accounts) (m : Nat) :
    look (changeMembers g (· - 1) { s with accounts := unlist s.accounts n }).accounts m =
      if m = n then none
      else if g = some m then (look s.accounts m).map (withMembers (· - 1)) else look s.accounts m := by
  rw [changeMembers_look]
  by_cases hm : m = n
  · subst hm
    simp [look_unlist_self m hr]
  · simp [look_unlist_ne _ hm, hm]

/-- Settles O36: the refusals, and the removal of a person or of a group. -/
theorem accountDeleted : Obligations.AccountDeleted := by
  intro s tag n h
  obtain ⟨rr, t, e, same, ht⟩ := mgmt_leaves_accounts h (doDeleteAccount n)
  have busy : ∀ a, account? s n = some a → accountBusy s n a = true →
      t = { s with mlu := tookMgmt s tag, arb := t.arb, sent := mgmtReply 0x49 tag (.code .notEmpty) } :=
    fun a ha hb => same _ (doDeleteAccount_busy ha hb)
  refine ⟨t, congrArg _ e, fun hn => same _ (doDeleteAccount_undefined hn), fun a p ha hb hf => ?_,
    fun a g ha hb hm => busy a ha ((accountBusy_group hb).mpr hm), fun a p ha hb hf hc hr => ?_,
    fun a g ha hb hm hr => ?_⟩
  · refine busy a ha ((accountBusy_person hb).mpr ?_)
    rcases hf with hf | hf | hf | hf | hf
    · exact .inl fun h0 => by simp [h0] at hf
    · exact .inl fun h0 => by simp [h0] at hf
    · exact .inl fun h0 => by simp [h0] at hf
    · exact .inl fun h0 => by simp [h0] at hf
    · exact .inr hf
  · have hfree : accountBusy s n a = false := by
      rw [Bool.eq_false_iff, ne_eq, accountBusy_person hb]
      simp_all
    obtain ⟨hmade, hacc⟩ := ht _ _ (doDeleteAccount_free ha hfree)
    have hlook : ∀ m, look t.accounts m = _ :=
      fun m => (congrArg (look · m) hacc).trans (deleted_look (s := begunMgmt s rr) (parentOf a) hr m)
    have hpar : parentOf a = p.parent := by simp [parentOf, hb]
    rw [hpar] at hlook
    exact ⟨hmade, (hlook n).trans (if_pos rfl), fun m hm => (hlook m).trans (if_neg hm)⟩
  · have hfree : accountBusy s n a = false := by
      rw [Bool.eq_false_iff, ne_eq, accountBusy_group hb]
      omega
    obtain ⟨hmade, hacc⟩ := ht _ _ (doDeleteAccount_free ha hfree)
    have hpar : parentOf a = none := by simp [parentOf, hb]
    rw [hpar] at hacc
    change t.accounts = unlist s.accounts n at hacc
    refine ⟨hmade, ?_, ?_, fun m hm => ?_⟩
    · rw [hacc, look_unlist_self n hr]
    · rw [groupCount, hacc]
      exact filter_unlist_length _ (look_of_account? ha) (by simp [hb])
    · rw [hacc, look_unlist_ne _ hm]

/-! ## The grace hold and the grace lapse (R33, R34) -/

theorem setGraceHold_same {s : State} {on : Bool} (h : on = s.settings.graceHold) : setGraceHold on s = s := by
  cases on <;> simp [setGraceHold, ← h]

theorem setGraceHold_on {s : State} (h : s.settings.graceHold = false) : setGraceHold true s =
    { s with settings := { s.settings with graceHold := true, graceStart := s.clock.now } } := by
  simp [setGraceHold, h]

theorem setGraceHold_off {s : State} (h : s.settings.graceHold = true) : setGraceHold false s =
    { s with settings.graceHold := false,
             accounts := mapTable (delayGrace (s.clock.now - s.settings.graceStart)) s.accounts } := by
  simp [setGraceHold, h]

/-- R34: the record of an OVER_SOFT person with its deadline moved. -/
theorem delayGrace_overSoft {a : Account} {p : Person} {t : Nat} (d : Nat) (hb : a.body = .person p)
    (hq : p.quota = .overSoft t) :
    delayGrace d a = { a with body := .person { p with quota := .overSoft (deadlineAt t d) } } := by
  obtain ⟨body, _, _, _⟩ := a
  obtain ⟨_, _, _, _, _, quota⟩ := p
  cases hb
  cases hq
  rfl

theorem delayGrace_other {a : Account} (d : Nat) (h : ∀ p t, a.body = .person p → p.quota ≠ .overSoft t) :
    delayGrace d a = a := by
  unfold delayGrace
  split
  · next hb => exact absurd rfl (h _ _ hb)
  · rfl

/-- R33: the lapse of an OVER_SOFT account whose deadline the clock has reached, the hold off. -/
theorem lapseGrace_due {s : State} {n d : Nat} {a : Account} {p : Person} (h : look s.accounts n = some a)
    (hb : a.body = .person p) (hq : p.quota = .overSoft d) (hd : d ≤ s.clock.now) (hh : s.settings.graceHold = false) :
    lapseGrace n s = setQuota n a p .lapsed s := by
  simp [lapseGrace, h, hb, hq, hd, hh]

/-- R33: in every other case the lapse changes nothing. -/
theorem lapseGrace_other {s : State} {n : Nat} (h : ∀ a p d, look s.accounts n = some a → a.body = .person p →
    p.quota = .overSoft d → s.clock.now < d ∨ s.settings.graceHold = true) : lapseGrace n s = s := by
  unfold lapseGrace
  split
  · rfl
  · next a ha =>
    split
    · rfl
    · next p hb =>
      split
      · next d hq =>
        refine if_neg ?_
        rintro ⟨hd, hh⟩
        rcases h a p d ha hb hq with hlt | hon
        · omega
        · simp [hon] at hh
      · rfl

/-- R163: the clock unit's presenting changes the arbiter alone. -/
theorem presentClock_eq (f : CkWork → Bool) (s : State) :
    presentClock f s = { s with arb := (presentClock f s).arb } := by
  apply State.eq_of
  all_goals simp

/-- R162: what the turn of agent CK leaves, the arbiter left open. -/
theorem clockTurn_of {s : State} (h : Granted s 8) (work : State → State) :
    ∃ rr t, clockTurn true work s = t ∧ t = { work (granted s 8 rr) with arb := t.arb } := by
  obtain ⟨rr, e⟩ := turn_of h fun t => presentClock (fun _ => false) (work t)
  exact ⟨rr, _, e, by rw [present_eq, presentClock_eq]; rfl⟩

theorem waitingGrace_of {s : State} {n : Nat} {w : Waiting} (h : look s.arb.waiting 8 = some w)
    (hw : w.work = .ck (.grace n)) : waitingGrace s = some n := by
  obtain ⟨_, _, work⟩ := w
  cases hw
  simp [waitingGrace, agentCK, h]

/-- Settles O37: the forms of SET_GRACE_HOLD, and the grace lapse with its notice. -/
theorem graceHoldAndLapse : Obligations.GraceHoldAndLapse := by
  refine ⟨fun s tag on h => ?_, fun s n w h hw hn => ?_⟩
  · obtain ⟨rr, -, t, e, ht⟩ := mgmt_leaves h fun t => (setGraceHold on t, .graceHold (setGraceHold on t).settings.graceHold)
    have made : ∀ u, setGraceHold on (begunMgmt s rr) = u → u.mlu = heldMgmt s → u.sent = [] →
        t = { u with mlu := tookMgmt s tag, arb := t.arb, sent := mgmtReply 0x4A tag (.graceHold u.settings.graceHold) } :=
      fun u hu hm hs => ht u _ (by rw [hu]) hm hs
    refine ⟨t, congrArg _ e, ?_, fun hon => ?_, ?_⟩
    · rintro rfl hoff
      exact made _ (setGraceHold_on (s := begunMgmt s rr) hoff) rfl rfl
    · rw [hon]
      exact made (begunMgmt s rr) (setGraceHold_same hon) rfl rfl
    · rintro rfl hon
      have hmade := made _ (setGraceHold_off (s := begunMgmt s rr) hon) rfl rfl
      have hacc : t.accounts = mapTable (delayGrace (s.clock.now - s.settings.graceStart)) s.accounts :=
        congrArg State.accounts hmade
      refine ⟨by rw [hacc]; exact hmade, fun m a ha => ⟨fun p d hb hq hd => ?_, fun hq => ?_⟩⟩
      · rw [hacc, look_mapTable, ha, Option.map_some, delayGrace_overSoft _ hb hq, deadlineAt_of_le hd]
      · rw [hacc, look_mapTable, ha, Option.map_some, delayGrace_other _ hq]
  · obtain ⟨rr, t, e, ht⟩ := clockTurn_of h (lapseGrace n)
    refine ⟨t, ?_, fun a p d ha hb hq hd hh => ?_, fun hother => ?_⟩
    · rw [exec, execGraceLapse, waitingGrace_of hw hn]
      exact congrArg _ e
    · have hdue := lapseGrace_due (s := granted s 8 rr) ha hb hq hd hh
      rw [hdue] at ht
      refine ⟨?_, ?_, fun m hm => ?_, ?_, fun i => ?_⟩
      · rw [ht, setQuota_eq]; rfl
      · rw [ht]; exact (setQuota_look ..).trans ((if_pos rfl).trans (congrArg _ ha))
      · rw [ht]; exact (setQuota_look ..).trans (if_neg hm)
      · rw [ht]; exact (setQuota_mlu ..).trans (by rw [hq]; rfl)
      · rw [ht]; exact (setQuota_heads ..).trans (by rw [hq]; rfl)
    · rw [lapseGrace_other (s := granted s 8 rr) hother] at ht
      exact ht

end Sys2Proof.Machine

/-! SUPPORT. The figures and statistics of a person and its group (R22, R40), and the RESERVE that is refused (R46 to R50). -/

namespace Sys2Proof.Machine

/-! ## A person and its group (R22, R40) -/

/-- R22, R40: a change of a person without a parent group. -/
theorem withGroup_orphan {s : State} {n : Nat} {a : Account} (f : Account → Account) (h : look s.accounts n = some a)
    (hp : parentOf a = none) : withGroup n f s = modifyAccount n f s := by
  simp [withGroup, h, hp]

theorem withGroup_member {s : State} {n g : Nat} {a : Account} (f : Account → Account) (h : look s.accounts n = some a)
    (hp : parentOf a = some g) : withGroup n f s = modifyAccount g f (modifyAccount n f s) := by
  simp [withGroup, h, hp]

/-- R22, R40: what a change of a person that is not its own group leaves of every record. -/
theorem withGroup_look {s : State} {n : Nat} {a : Account} (f : Account → Account) (h : look s.accounts n = some a)
    (hp : parentOf a ≠ some n) (m : Nat) : look (withGroup n f s).accounts m =
      if m = n ∨ parentOf a = some m then (look s.accounts m).map f else look s.accounts m := by
  cases hg : parentOf a with
  | none => simp [withGroup_orphan f h hg]
  | some g =>
    have hgn : g ≠ n := by
      rintro rfl
      exact hp hg
    rw [withGroup_member f h hg, modifyAccount_look, modifyAccount_look]
    by_cases hm : m = n
    · subst hm
      simp [hgn.symm]
    · simp [hm, eq_comm (a := m)]

theorem parentOf_person {a : Account} {p : Person} (hb : a.body = .person p) : parentOf a = p.parent := by
  simp [parentOf, hb]

/-! ## RESERVE refused (R46, Table 3-3) -/

theorem begunHead_get (s : State) (h : HeadId) (rr : Bool) : (begunHead s h rr).heads.get h = heldHead (s.heads.get h) :=
  Quad.get_set_self ..

/-- R42: taking a request leaves the slots of its head. -/
theorem begunHead_slotOf (s : State) (h : HeadId) (rr : Bool) (k : Nat) : slotOf (begunHead s h rr) h k = slotOf s h k := by
  rw [slotOf, begunHead_get]
  rfl

/-- R157: what a head's turn leaves whose work changes the accounts alone, or nothing. -/
theorem head_leaves_accounts {s : State} {h : HeadId} {tag : Nat} {r : Request} (kind : Nat) (ht : TakesUp s h tag r)
    (work : State → State × Reply) :
    ∃ rr t, requestTurn (.head h) tag r (fun i t => answer kind (.head h) i tag (work t).2 (work t).1) s = t ∧
      (∀ c, work (begunHead s h rr) = (begunHead s h rr, c) →
        t = { s with heads := s.heads.set h (tookHead tag (s.heads.get h)), arb := t.arb,
                     sent := headReply kind s h tag c }) ∧
      ∀ accounts c, work (begunHead s h rr) = ({ begunHead s h rr with accounts := accounts }, c) →
        t = { s with accounts := t.accounts, heads := s.heads.set h (tookHead tag (s.heads.get h)), arb := t.arb,
                     sent := headReply kind s h tag c } ∧ t.accounts = accounts := by
  obtain ⟨rr, -, t, e, ht⟩ := head_leaves kind ht work
  refine ⟨rr, t, e, fun c hc => ht (begunHead s h rr) c hc rfl rfl, fun accounts c hc => ?_⟩
  have hmade := ht _ c hc rfl rfl
  have hacc : t.accounts = accounts := congrArg State.accounts hmade
  exact ⟨by rw [hacc]; exact hmade, hacc⟩

theorem reserveCheck_badArgument (s : State) (h : HeadId) (account volume : Nat) :
    reserveCheck s h account volume 0 = some .badArgument := rfl

section ReserveChecks
variable {s : State} (h : HeadId) {account volume want : Nat} (hw : want ≠ 0)
include hw

theorem reserveCheck_noAccount (ha : account? s account = none) :
    reserveCheck s h account volume want = some .noAccount := by
  simp [reserveCheck, hw, ha]

theorem reserveCheck_notPerson {a : Account} {g : Group} (ha : account? s account = some a) (hb : a.body = .group g) :
    reserveCheck s h account volume want = some .notPerson := by
  simp [reserveCheck, hw, ha, hb]

theorem reserveCheck_noVolume {a : Account} {p : Person} (ha : account? s account = some a) (hb : a.body = .person p)
    (hv : volume? s volume = none) : reserveCheck s h account volume want = some .noVolume := by
  simp [reserveCheck, hw, ha, hb, hv]

theorem reserveCheck_slotsFull {a : Account} {p : Person} {V : Volume} (ha : account? s account = some a)
    (hb : a.body = .person p) (hv : volume? s volume = some V)
    (hk : ∀ k, k < 32 → ∃ r, (slotOf s h k).reservation = some r ∧ r.state = .open_) :
    reserveCheck s h account volume want = some .slotsFull := by
  have hall : (List.range 32).all (fun k => ((slotOf s h k).reservation.map (·.state)) = some .open_) = true := by
    simp only [List.all_eq_true, List.mem_range, decide_eq_true_eq]
    intro k hlt
    obtain ⟨r, hr, ho⟩ := hk k hlt
    rw [hr, Option.map_some, ho]
  simp only [reserveCheck, if_neg hw, ha, hb, hv, Option.isNone_some, Bool.false_eq_true, if_false, hall, if_true]

/-- R46: the checks pass where a slot of the head is not OPEN. -/
theorem reserveCheck_passed {a : Account} {p : Person} {V : Volume} {k : Nat} (ha : account? s account = some a)
    (hb : a.body = .person p) (hv : volume? s volume = some V) (hk : k < 32)
    (hr : ∀ r, (slotOf s h k).reservation = some r → r.state = .lapsed) :
    reserveCheck s h account volume want = none := by
  have hall : (List.range 32).all (fun k => ((slotOf s h k).reservation.map (·.state)) = some .open_) = false := by
    rw [List.all_eq_false]
    refine ⟨k, List.mem_range.mpr hk, ?_⟩
    cases hres : (slotOf s h k).reservation with
    | none => simp
    | some r => simp [hr r hres]
  simp only [reserveCheck, if_neg hw, ha, hb, hv, Option.isNone_some, Bool.false_eq_true, if_false, hall]

end ReserveChecks

theorem doReserve_refused {s : State} {h : HeadId} {account volume want minimum : Nat} {c : Code}
    (hc : reserveCheck s h account volume want = some c) :
    doReserve h account volume want minimum s = (s, .reserve c none 0 0 none []) := by
  simp [doReserve, hc]

theorem doReserve_admitted {s : State} {h : HeadId} {account volume want minimum : Nat} {a : Account} {p : Person}
    (hc : reserveCheck s h account volume want = none) (ha : account? s account = some a) (hb : a.body = .person p) :
    doReserve h account volume want minimum s =
      admitReserve h account volume (clampWant want) (clampMinimum want minimum) a p s := by
  simp [doReserve, hc, ha, hb]

/-- R29: the headroom of a RESERVE of a person. -/
def reserveHeadroom (s : State) (a : Account) (p : Person) : Nat :=
  headroomOf (ownHeadroom a p) (groupHeadroom s p) (some (poolHeadroom s p))

/-- R29: a headroom below the minimum refuses with the limiting term. -/
theorem admitReserve_limited {s : State} {h : HeadId} {account volume want minimum : Nat} {a : Account} {p : Person}
    (hl : reserveHeadroom s a p < minimum) : admitReserve h account volume want minimum a p s =
      ({ s with accounts := (countRefusal account s).accounts },
        .reserve (limitingTerm (ownHeadroom a p) (groupHeadroom s p) (some (poolHeadroom s p))) none 0
          (reserveHeadroom s a p) none []) := by
  unfold reserveHeadroom at *
  simp only [admitReserve, if_pos hl]
  exact congrArg (·, _) (changeStats_eq ..)

/-- R50: a scan that collects less than the minimum refuses with FRAGMENTED. -/
theorem admitReserve_fragmented {s : State} {h : HeadId} {account volume want minimum : Nat} {a : Account} {p : Person}
    (hl : minimum ≤ reserveHeadroom s a p)
    (hs : (zoneScan s.pool (s.heads.get h).zone (s.heads.get h).position (min want (reserveHeadroom s a p))).count < minimum) :
    admitReserve h account volume want minimum a p s =
      ({ s with accounts := (countRefusal account s).accounts },
        .reserve .fragmented none
          (zoneScan s.pool (s.heads.get h).zone (s.heads.get h).position (min want (reserveHeadroom s a p))).count
          (reserveHeadroom s a p) none []) := by
  unfold reserveHeadroom at *
  simp only [admitReserve, if_neg (Nat.not_lt.mpr hl), if_pos hs]
  exact congrArg (·, _) (changeStats_eq ..)

/-- R40: the record of an account whose RESERVE was refused for want of room. -/
def refusedOnce (b : Account) : Account :=
  { b with stats := { b.stats with refusals := min 4294967295 (b.stats.refusals + 1) } }

/-- R40: a refusal is counted at the person and at its group. -/
theorem countRefusal_look {s : State} {n : Nat} {a : Account} {p : Person} (h : account? s n = some a)
    (hb : a.body = .person p) (hp : p.parent ≠ some n) :
    look (countRefusal n s).accounts n = some (refusedOnce a) ∧
    ∀ m, m ≠ n → look (countRefusal n s).accounts m =
      if p.parent = some m then (look s.accounts m).map refusedOnce else look s.accounts m := by
  have hl := look_of_account? h
  rw [← parentOf_person hb] at hp ⊢
  have hlook : ∀ m, look (countRefusal n s).accounts m = _ := withGroup_look refusedOnce hl hp
  refine ⟨?_, fun m hm => ?_⟩
  · rw [hlook, if_pos (.inl rfl), hl, Option.map_some]
  · rw [hlook]
    simp [hm]

/-- Settles O26: the checks before admission, and the two refusals of an admission with their count. -/
theorem reserveRefused : Obligations.ReserveRefused := by
  intro s h tag account volume want minimum hTakes
  obtain ⟨rr, t, e, same, ht⟩ := head_leaves_accounts 0x10 hTakes (doReserve h account volume want minimum)
  refine ⟨t, congrArg _ e, ?_⟩
  have refused : ∀ c, reserveCheck (begunHead s h rr) h account volume want = some c → t = { s with
      heads := s.heads.set h (tookHead tag (s.heads.get h)), arb := t.arb,
      sent := headReply 0x10 s h tag (.reserve c none 0 0 none []) } := fun c hc => same _ (doReserve_refused hc)
  have slots : ∀ k, slotOf (begunHead s h rr) h k = slotOf s h k := begunHead_slotOf s h rr
  refine ⟨?_, fun hw ha => refused _ (reserveCheck_noAccount h hw ha),
    fun a g hw ha hb => refused _ (reserveCheck_notPerson h hw ha hb),
    fun a p hw ha hb hv => refused _ (reserveCheck_noVolume h hw ha hb hv),
    fun a p V hw ha hb hv hk => refused _ (reserveCheck_slotsFull h hw ha hb hv (by simpa only [slots] using hk)),
    fun a p V k hw ha hb hv hk hr hl => ?_, fun a p V k hw ha hb hv hk hr hl hs => ?_⟩
  · rintro rfl
    exact refused _ (reserveCheck_badArgument ..)
  · have hc : reserveCheck (begunHead s h rr) h account volume want = none :=
      reserveCheck_passed h hw ha hb hv hk (by simpa only [slots] using hr)
    obtain ⟨hmade, hacc⟩ := ht _ _ ((doReserve_admitted hc ha hb).trans (admitReserve_limited hl))
    exact ⟨fun hp => hacc ▸ countRefusal_look (s := begunHead s h rr) ha hb hp, hmade⟩
  · have hc : reserveCheck (begunHead s h rr) h account volume want = none :=
      reserveCheck_passed h hw ha hb hv hk (by simpa only [slots] using hr)
    have hscan : ∀ g, zoneScan (begunHead s h rr).pool ((begunHead s h rr).heads.get h).zone
        ((begunHead s h rr).heads.get h).position g = zoneScan s.pool (s.heads.get h).zone (s.heads.get h).position g := by
      intro g
      rw [begunHead_get]
      rfl
    have hwork := admitReserve_fragmented (s := begunHead s h rr) (h := h) (account := account) (volume := volume)
      (want := clampWant want) hl (by rw [hscan]; exact hs)
    rw [hscan] at hwork
    obtain ⟨hmade, hacc⟩ := ht _ _ ((doReserve_admitted hc ha hb).trans hwork)
    exact ⟨fun hp => hacc ▸ countRefusal_look (s := begunHead s h rr) ha hb hp, hmade⟩

end Sys2Proof.Machine

/-! SUPPORT. The clock unit's due work (R33, R54, R114, R163): the model's choice of the first due work is `DueAt`. -/

namespace Sys2Proof.Machine

/-! ## The earliest of some due work -/

/-- One step of the search for the earliest. -/
def earlier (best : Option (Nat × CkWork)) (x : Nat × CkWork) : Option (Nat × CkWork) :=
  match best with
  | none => some x
  | some b => if x.1 < b.1 then some x else some b

theorem earliest_eq_foldl (l : List (Nat × CkWork)) : earliest l = l.foldl earlier none := by
  unfold earliest
  congr 1
  funext best x
  cases best with
  | none => rfl
  | some b => simp only [earlier]

/-- The search ends at the best so far, which nothing in the list precedes, or at a work of the list that is earlier than
all before it and no later than all after it. -/
theorem foldl_earlier (b : Nat × CkWork) (l : List (Nat × CkWork)) :
    ∃ c, l.foldl earlier (some b) = some c ∧ (c = b ∧ (∀ x ∈ l, b.1 ≤ x.1) ∨ c.1 < b.1 ∧
      ∃ l₁ l₂, l = l₁ ++ c :: l₂ ∧ (∀ x ∈ l₁, c.1 < x.1) ∧ ∀ x ∈ l₂, c.1 ≤ x.1) := by
  induction l generalizing b with
  | nil => exact ⟨b, rfl, .inl ⟨rfl, by simp⟩⟩
  | cons x l ih =>
    by_cases hx : x.1 < b.1
    · obtain ⟨c, hc, hcase⟩ := ih x
      refine ⟨c, by simpa [earlier, hx] using hc, .inr ?_⟩
      rcases hcase with ⟨rfl, hle⟩ | ⟨hlt, l₁, l₂, rfl, h1, h2⟩
      · exact ⟨hx, [], l, rfl, by simp, hle⟩
      · exact ⟨hlt.trans hx, x :: l₁, l₂, rfl, by simpa using ⟨hlt, fun a b => h1 (a, b)⟩, h2⟩
    · obtain ⟨c, hc, hcase⟩ := ih b
      refine ⟨c, by simpa [earlier, hx] using hc, ?_⟩
      rcases hcase with ⟨rfl, hle⟩ | ⟨hlt, l₁, l₂, rfl, h1, h2⟩
      · exact .inl ⟨rfl, by simpa using ⟨Nat.not_lt.mp hx, fun a b => hle (a, b)⟩⟩
      · exact .inr ⟨hlt, x :: l₁, l₂, rfl, by simpa using ⟨by omega, fun a b => h1 (a, b)⟩, h2⟩

theorem earliest_nil : earliest [] = none := rfl

/-- R54, R163: the earliest of some work is one of it; what is listed before it is later, and what is listed after it is
no earlier. -/
theorem earliest_split {l : List (Nat × CkWork)} (h : l ≠ []) :
    ∃ c l₁ l₂, earliest l = some c ∧ l = l₁ ++ c :: l₂ ∧ (∀ x ∈ l₁, c.1 < x.1) ∧ ∀ x ∈ l₂, c.1 ≤ x.1 := by
  cases l with
  | nil => exact absurd rfl h
  | cons b l =>
    obtain ⟨c, hc, hcase⟩ := foldl_earlier b l
    refine ⟨c, ?_⟩
    rw [earliest_eq_foldl]
    rcases hcase with ⟨rfl, hle⟩ | ⟨hlt, l₁, l₂, rfl, h1, h2⟩
    · exact ⟨[], l, hc, rfl, by simp, hle⟩
    · exact ⟨b :: l₁, l₂, hc, rfl, by simpa using ⟨hlt, fun a b => h1 (a, b)⟩, h2⟩

/-- R54, R163: the earliest work of a list that an order sorts is the first of its due value in that order. -/
theorem earliest_iff {R : Nat × CkWork → Nat × CkWork → Prop} {l : List (Nat × CkWork)} (hl : l.Pairwise R)
    (hR : ∀ a b, R a b → ¬ R b a) (c : Nat × CkWork) :
    earliest l = some c ↔ c ∈ l ∧ ∀ x ∈ l, c.1 < x.1 ∨ c.1 = x.1 ∧ (x = c ∨ R c x) := by
  have first : ∀ c, earliest l = some c → c ∈ l ∧ ∀ x ∈ l, c.1 < x.1 ∨ c.1 = x.1 ∧ (x = c ∨ R c x) := by
    intro c hc
    have hne : l ≠ [] := by
      rintro rfl
      cases hc
    obtain ⟨d, l₁, l₂, hd, rfl, h1, h2⟩ := earliest_split hne
    obtain rfl : d = c := Option.some.inj (hd.symm.trans hc)
    refine ⟨by simp, fun x hx => ?_⟩
    rcases List.mem_append.mp hx with hx | hx
    · exact .inl (h1 x hx)
    · rcases List.mem_cons.mp hx with rfl | hx
      · exact .inr ⟨rfl, .inl rfl⟩
      · have hdx : R d x := (List.pairwise_cons.mp (List.pairwise_append.mp hl).2.1).1 x hx
        rcases Nat.lt_or_eq_of_le (h2 x hx) with hlt | heq
        · exact .inl hlt
        · exact .inr ⟨heq, .inr hdx⟩
  refine ⟨first c, fun ⟨hmem, hmin⟩ => ?_⟩
  obtain ⟨d, _, _, hd, -⟩ := earliest_split (List.ne_nil_of_mem hmem)
  obtain ⟨hdmem, hdmin⟩ := first d hd
  rw [hd]
  rcases hmin d hdmem with hlt | ⟨heq, rfl | hcd⟩
  · rcases hdmin c hmem with h | ⟨h, -⟩ <;> omega
  · rfl
  · rcases hdmin c hmem with h | ⟨-, h | h⟩
    · omega
    · rw [h]
    · exact absurd h (hR _ _ hcd)

theorem earliest_eq_none {l : List (Nat × CkWork)} : earliest l = none ↔ l = [] := by
  refine ⟨fun h => ?_, fun h => h ▸ rfl⟩
  by_contra hne
  obtain ⟨c, _, _, hc, -⟩ := earliest_split hne
  simp [hc] at h

/-! ## Lapses of reservations (R54) -/

/-- R54: slot numbers rise along the slots of a head, and heads along the list of lapses. -/
def lapseBefore (a b : Nat × CkWork) : Prop :=
  ∃ (h i : HeadId) (k j g e : Nat), a.2 = .lapse h k g ∧ b.2 = .lapse i j e ∧ (h < i ∨ (h = i ∧ k < j))

theorem lapseBefore_asymm (a b : Nat × CkWork) (hab : lapseBefore a b) : ¬ lapseBefore b a := by
  obtain ⟨h, i, k, j, g, e, ha, hb, hlt⟩ := hab
  rintro ⟨h', i', k', j', g', e', hb', ha', hlt'⟩
  simp only [ha, hb, CkWork.lapse.injEq] at ha' hb'
  obtain ⟨rfl, rfl, -⟩ := ha'
  obtain ⟨rfl, rfl, -⟩ := hb'
  rcases hlt with hlt | ⟨rfl, hlt⟩ <;> rcases hlt' with hlt' | ⟨heq, hlt'⟩
  · exact lt_asymm hlt hlt'
  · exact lt_irrefl _ (heq ▸ hlt)
  · exact lt_irrefl _ hlt'
  · exact Nat.lt_asymm hlt hlt'

theorem openSlot_iff {s : State} {h : HeadId} {k : Nat} {r : Reservation} :
    OpenSlot s h k r ↔ ∃ x, (s.heads.get h).slots[k]? = some x ∧ x.reservation = some r ∧ r.state = .open_ := by
  unfold OpenSlot slotOf
  rw [List.getD_eq_getElem?_getD]
  cases hx : (s.heads.get h).slots[k]? with
  | none => simp [Slot.free0]
  | some x => simp

theorem mem_expiredSlots {s : State} {h : HeadId} {x : Nat × CkWork} : x ∈ expiredSlots s h ↔
    ∃ k r, OpenSlot s h k r ∧ r.deadline ≤ s.clock.now ∧ x = (r.deadline, .lapse h k (slotOf s h k).generation) := by
  simp only [expiredSlots, List.mem_filterMap, Prod.exists, List.mk_mem_zipIdx_iff_getElem?, openSlot_iff, slotOf,
    List.getD_eq_getElem?_getD]
  constructor
  · rintro ⟨y, k, hy, hx⟩
    cases hr : y.reservation with
    | none => simp [hr] at hx
    | some r =>
      by_cases ho : r.state = .open_ ∧ r.deadline ≤ s.clock.now
      · simp only [hr, if_pos ho, Option.some.injEq] at hx
        exact ⟨k, r, ⟨y, hy, hr, ho.1⟩, ho.2, by rw [← hx, hy, Option.getD_some]⟩
      · simp [hr, ho] at hx
  · rintro ⟨k, r, ⟨y, hy, hr, ho⟩, hd, rfl⟩
    exact ⟨y, k, hy, by simp [hr, ho, hd, hy]⟩

theorem expiredSlots_pairwise (s : State) (h : HeadId) : (expiredSlots s h).Pairwise lapseBefore := by
  have hidx : ((s.heads.get h).slots.zipIdx).Pairwise fun a b => a.2 < b.2 := by
    rw [← List.pairwise_map, List.zipIdx_map_snd]
    exact List.pairwise_lt_range' 1
  rw [expiredSlots, List.pairwise_filterMap]
  refine hidx.imp fun {a b} hab x hx y hy => ?_
  have named : ∀ (p : Slot × Nat) (z : Nat × CkWork), (match p.1.reservation with
      | some r => if r.state = .open_ ∧ r.deadline ≤ s.clock.now then some (r.deadline, CkWork.lapse h p.2 p.1.generation) else none
      | none => none) = some z → z.2 = .lapse h p.2 p.1.generation := by
    intro p z hz
    split at hz
    · split at hz
      · cases hz; rfl
      · cases hz
    · cases hz
  exact ⟨h, h, a.2, b.2, _, _, named a x hx, named b y hy, .inr ⟨rfl, hab⟩⟩

theorem mem_four (h : Fin 4) : h ∈ four := by fin_cases h <;> simp [four]

theorem lapses_pairwise (s : State) : (four.flatMap (expiredSlots s)).Pairwise lapseBefore := by
  have hfour : four.Pairwise (· < ·) := by decide
  rw [List.pairwise_flatMap]
  refine ⟨fun h _ => expiredSlots_pairwise s h, hfour.imp fun {h i} hlt x hx y hy => ?_⟩
  obtain ⟨k, r, -, -, rfl⟩ := mem_expiredSlots.mp hx
  obtain ⟨j, q, -, -, rfl⟩ := mem_expiredSlots.mp hy
  exact ⟨h, i, k, j, _, _, rfl, rfl, .inl hlt⟩

theorem mem_lapses {s : State} {x : Nat × CkWork} : x ∈ four.flatMap (expiredSlots s) ↔ ∃ h k r,
    OpenSlot s h k r ∧ r.deadline ≤ s.clock.now ∧ x = (r.deadline, .lapse h k (slotOf s h k).generation) := by
  simp only [List.mem_flatMap, mem_four, true_and, mem_expiredSlots]

theorem openSlot_unique {s : State} {h : HeadId} {k : Nat} {r q : Reservation} (hr : OpenSlot s h k r)
    (hq : OpenSlot s h k q) : r = q := Option.some.inj (hr.1.symm.trans hq.1)

/-- R54: the model's first lapse is the one that is due first. -/
theorem dueLapse_iff (s : State) (d : Nat) (w : CkWork) :
    dueLapse s = some (d, w) ↔ ∃ h k g, w = .lapse h k g ∧ DueAt s d w := by
  rw [dueLapse, earliest_iff (lapses_pairwise s) lapseBefore_asymm]
  constructor
  · rintro ⟨hmem, hmin⟩
    obtain ⟨h, k, r, hr, hd, hx⟩ := mem_lapses.mp hmem
    obtain ⟨rfl, rfl⟩ := Prod.mk.inj hx
    refine ⟨h, k, _, rfl, r, hr, rfl, rfl, hd, fun i j q hq => ?_⟩
    by_cases hlate : q.deadline ≤ s.clock.now
    · rcases hmin _ (mem_lapses.mpr ⟨i, j, q, hq, hlate, rfl⟩) with hlt | ⟨heq, hsame | hbefore⟩
      · exact .inl hlt
      · simp only [Prod.mk.injEq, CkWork.lapse.injEq] at hsame
        obtain ⟨-, rfl, rfl, -⟩ := hsame
        exact .inr ⟨heq, .inr ⟨rfl, le_refl _⟩⟩
      · obtain ⟨h', i', k', j', g', e', ha, hb, hlt⟩ := hbefore
        simp only [CkWork.lapse.injEq] at ha hb
        obtain ⟨rfl, rfl, -⟩ := ha
        obtain ⟨rfl, rfl, -⟩ := hb
        exact .inr ⟨heq, hlt.imp_right fun ⟨hh, hk⟩ => ⟨hh, hk.le⟩⟩
    · exact .inl (by omega)
  · rintro ⟨h, k, g, rfl, r, hr, rfl, rfl, hd, hmin⟩
    refine ⟨mem_lapses.mpr ⟨h, k, r, hr, hd, rfl⟩, fun x hx => ?_⟩
    obtain ⟨i, j, q, hq, -, rfl⟩ := mem_lapses.mp hx
    rcases hmin i j q hq with hlt | ⟨heq, hlt | ⟨rfl, hle⟩⟩
    · exact .inl hlt
    · exact .inr ⟨heq, .inr ⟨h, i, k, j, _, _, rfl, rfl, .inl hlt⟩⟩
    · rcases Nat.lt_or_eq_of_le hle with hlt | rfl
      · exact .inr ⟨heq, .inr ⟨h, h, k, j, _, _, rfl, rfl, .inr ⟨rfl, hlt⟩⟩⟩
      · obtain rfl := openSlot_unique hr hq
        exact .inr ⟨rfl, .inl rfl⟩

theorem dueLapse_eq_none {s : State} (h : ∀ h k r, OpenSlot s h k r → s.clock.now < r.deadline) : dueLapse s = none := by
  rw [dueLapse, earliest_eq_none, List.eq_nil_iff_forall_not_mem]
  intro x hx
  obtain ⟨i, k, r, hr, hd, -⟩ := mem_lapses.mp hx
  exact absurd (h i k r hr) (by omega)

/-! ## Grace lapses (R33) -/

/-- R33: the lapse of one account, if its grace deadline has been reached. -/
def graceOf (now : Nat) (x : Nat × Account) : Option (Nat × CkWork) :=
  match x.2.body with
  | .person ⟨_, _, _, _, _, .overSoft d⟩ => if d ≤ now then some (d, .grace x.1) else none
  | _ => none

theorem dueGrace_eq (s : State) : dueGrace s = if s.clock.isSet ∧ s.settings.graceHold = false
    then earliest (s.accounts.filterMap (graceOf s.clock.now)) else none := rfl

theorem graceOf_eq_some {now : Nat} {x : Nat × Account} {y : Nat × CkWork} : graceOf now x = some y ↔
    ∃ p d, x.2.body = .person p ∧ p.quota = .overSoft d ∧ d ≤ now ∧ y = (d, .grace x.1) := by
  unfold graceOf
  split
  · next d hb =>
    constructor
    · intro h
      split at h
      · next hd => exact ⟨_, d, hb, rfl, hd, (Option.some.inj h).symm⟩
      · cases h
    · rintro ⟨p, e, hp, hq, hd, rfl⟩
      obtain rfl := AccountBody.person.inj (hb.symm.trans hp)
      obtain rfl := Quota.overSoft.inj hq
      exact if_pos hd
  · next hno =>
    refine ⟨fun h => (nomatch h), ?_⟩
    rintro ⟨⟨_, _, _, _, _, q⟩, e, hp, rfl, -⟩
    exact absurd hp (hno _ _ _ _ _ _)

/-- A record of a table in canonical form is what its number reads. -/
theorem look_of_mem {α : Type} {t : Table α} {n : Nat} {a : α} (hr : Rising t) (h : (n, a) ∈ t) : look t n = some a := by
  induction t with
  | nil => cases h
  | cons kv t ih =>
    obtain ⟨k, v⟩ := kv
    obtain ⟨hk, hr⟩ := rising_cons.mp hr
    rcases List.mem_cons.mp h with heq | h
    · obtain ⟨rfl, rfl⟩ := Prod.mk.inj heq
      exact if_pos rfl
    · have hlt := hk n (List.mem_map_of_mem (f := Prod.fst) h)
      rw [look, if_neg (by omega), ih hr h]

theorem mem_graces {s : State} (hr : Rising s.accounts) {x : Nat × CkWork} :
    x ∈ s.accounts.filterMap (graceOf s.clock.now) ↔ ∃ n d, OverSoftAt s n d ∧ d ≤ s.clock.now ∧ x = (d, .grace n) := by
  simp only [List.mem_filterMap, Prod.exists, graceOf_eq_some, OverSoftAt]
  constructor
  · rintro ⟨n, a, hmem, p, d, hb, hq, hd, rfl⟩
    exact ⟨n, d, ⟨a, p, look_of_mem hr hmem, hb, hq⟩, hd, rfl⟩
  · rintro ⟨n, d, ⟨a, p, ha, hb, hq⟩, hd, rfl⟩
    exact ⟨n, a, mem_keys_of_look ha, p, d, hb, hq, hd, rfl⟩

/-- R33: account numbers rise along the list of grace lapses. -/
def graceBefore (a b : Nat × CkWork) : Prop := ∃ n m, a.2 = .grace n ∧ b.2 = .grace m ∧ n < m

theorem graceBefore_asymm (a b : Nat × CkWork) (hab : graceBefore a b) : ¬ graceBefore b a := by
  obtain ⟨n, m, ha, hb, hlt⟩ := hab
  rintro ⟨m', n', hb', ha', hlt'⟩
  simp only [ha, hb, CkWork.grace.injEq] at ha' hb'
  omega

theorem graces_pairwise {s : State} (hr : Rising s.accounts) :
    (s.accounts.filterMap (graceOf s.clock.now)).Pairwise graceBefore := by
  rw [List.pairwise_filterMap]
  refine (List.pairwise_map.mp hr).imp fun {a b} hab x hx y hy => ?_
  obtain ⟨_, _, -, -, -, rfl⟩ := graceOf_eq_some.mp hx
  obtain ⟨_, _, -, -, -, rfl⟩ := graceOf_eq_some.mp hy
  exact ⟨a.1, b.1, rfl, rfl, hab⟩

/-- R33: the model's first grace lapse is the one that is due first. -/
theorem dueGrace_iff {s : State} (hr : Rising s.accounts) (d : Nat) (w : CkWork) :
    dueGrace s = some (d, w) ↔ ∃ n, w = .grace n ∧ DueAt s d w := by
  rw [dueGrace_eq]
  by_cases hon : s.clock.isSet = true ∧ s.settings.graceHold = false
  · rw [if_pos hon, earliest_iff (graces_pairwise hr) graceBefore_asymm]
    constructor
    · rintro ⟨hmem, hmin⟩
      obtain ⟨n, e, ho, hd, hx⟩ := (mem_graces hr).mp hmem
      obtain ⟨rfl, rfl⟩ := Prod.mk.inj hx
      refine ⟨n, rfl, hon.1, hon.2, ho, hd, fun m e he => ?_⟩
      by_cases hlate : e ≤ s.clock.now
      · rcases hmin _ ((mem_graces hr).mpr ⟨m, e, he, hlate, rfl⟩) with hlt | ⟨heq, hsame | hbefore⟩
        · exact .inl hlt
        · simp only [Prod.mk.injEq, CkWork.grace.injEq] at hsame
          exact .inr ⟨heq, by omega⟩
        · obtain ⟨n', m', ha, hb, hlt⟩ := hbefore
          simp only [CkWork.grace.injEq] at ha hb
          exact .inr ⟨heq, by omega⟩
      · exact .inl (by omega)
    · rintro ⟨n, rfl, -, -, ho, hd, hmin⟩
      refine ⟨(mem_graces hr).mpr ⟨n, d, ho, hd, rfl⟩, fun x hx => ?_⟩
      obtain ⟨m, e, he, -, rfl⟩ := (mem_graces hr).mp hx
      rcases hmin m e he with hlt | ⟨heq, hle⟩
      · exact .inl hlt
      · refine .inr ⟨heq, ?_⟩
        rcases Nat.lt_or_eq_of_le hle with hlt | rfl
        · exact .inr ⟨n, m, rfl, rfl, hlt⟩
        · exact .inl (by rw [heq])
  · rw [if_neg hon]
    refine ⟨fun h => (nomatch h), ?_⟩
    rintro ⟨n, rfl, hset, hhold, -⟩
    exact absurd ⟨hset, hhold⟩ hon

theorem dueGrace_eq_none {s : State} (hr : Rising s.accounts) (h : s.clock.isSet = false ∨ s.settings.graceHold = true ∨
    ∀ n d, OverSoftAt s n d → s.clock.now < d) : dueGrace s = none := by
  rw [dueGrace_eq]
  split
  · next hon =>
    rw [earliest_eq_none, List.eq_nil_iff_forall_not_mem]
    intro x hx
    obtain ⟨n, d, ho, hd, -⟩ := (mem_graces hr).mp hx
    rcases h with h | h | h
    · simp [h] at hon
    · simp [h] at hon
    · exact absurd (h n d ho) (by omega)
  · rfl

/-! ## The window event (R114) -/

theorem dueWindow_iff (s : State) (d : Nat) (w : CkWork) : dueWindow s = some (d, w) ↔ w = .window ∧ DueAt s d w := by
  unfold dueWindow
  split
  · next h =>
    cases hd : s.clock.windowDue with
    | none =>
      refine ⟨fun h => by simp at h, ?_⟩
      rintro ⟨rfl, hdue⟩
      have := hdue.2.2
      simp [hd] at this
    | some t =>
      constructor
      · intro he
        obtain ⟨rfl, rfl⟩ : t = d ∧ CkWork.window = w := by simpa using he
        exact ⟨rfl, h.1, h.2, hd⟩
      · rintro ⟨rfl, hdue⟩
        have ht := hdue.2.2
        rw [hd] at ht
        rw [Option.some.inj ht]
        rfl
  · next h =>
    refine ⟨fun he => (nomatch he), ?_⟩
    rintro ⟨rfl, hset, hdiff, -⟩
    exact absurd ⟨hset, hdiff⟩ h

theorem dueWindow_eq_none {s : State} (h : s.clock.isSet = false ∨ s.given = s.clock.window) : dueWindow s = none := by
  unfold dueWindow
  rw [if_neg]
  rintro ⟨hset, hdiff⟩
  rcases h with h | h
  · simp [h] at hset
  · exact hdiff h

/-! ## The first due work (R163) -/

/-- R163: the clock unit's due work, one of each kind. -/
theorem dueAt_iff {s : State} (hr : Rising s.accounts) (x : Nat × CkWork) :
    x ∈ [dueWindow s, dueLapse s, dueGrace s].filterMap id ↔ DueAt s x.1 x.2 := by
  obtain ⟨d, w⟩ := x
  have hmem : (d, w) ∈ [dueWindow s, dueLapse s, dueGrace s].filterMap id ↔
      dueWindow s = some (d, w) ∨ dueLapse s = some (d, w) ∨ dueGrace s = some (d, w) := by
    simp [List.mem_filterMap, eq_comm]
  rw [hmem, dueWindow_iff, dueLapse_iff, dueGrace_iff hr]
  refine ⟨fun h => ?_, fun h => ?_⟩
  · rcases h with ⟨-, h⟩ | ⟨_, _, _, -, h⟩ | ⟨_, -, h⟩ <;> exact h
  · cases w with
    | window => exact .inl ⟨rfl, h⟩
    | lapse i k g => exact .inr (.inl ⟨i, k, g, rfl, h⟩)
    | grace n => exact .inr (.inr ⟨n, rfl, h⟩)

/-- R163: what may be presented first is the due work before which nothing else fell due. -/
theorem mem_dueFirst {s : State} (hr : Rising s.accounts) (x : Nat × CkWork) :
    x ∈ dueFirst s ↔ DueAt s x.1 x.2 ∧ ∀ e v, DueAt s e v → x.1 ≤ e := by
  have hdue := dueAt_iff hr
  unfold dueFirst
  generalize [dueWindow s, dueLapse s, dueGrace s].filterMap id = due at hdue
  by_cases hne : due = []
  · subst hne
    simp only [earliest_nil, List.not_mem_nil, false_iff, not_and] at hdue ⊢
    exact fun h => absurd h (hdue x)
  · obtain ⟨b, l₁, l₂, hb, rfl, h1, h2⟩ := earliest_split hne
    have hmin : ∀ y ∈ l₁ ++ b :: l₂, b.1 ≤ y.1 := by
      intro y hy
      rcases List.mem_append.mp hy with hy | hy
      · exact (h1 y hy).le
      · rcases List.mem_cons.mp hy with rfl | hy
        · exact le_refl _
        · exact h2 y hy
    have hbdue : DueAt s b.1 b.2 := (hdue b).mp (by simp)
    simp only [hb, List.mem_filter, hdue, decide_eq_true_eq]
    refine and_congr_right fun hx => ⟨fun heq e v hev => heq ▸ hmin (e, v) ((hdue (e, v)).mpr hev), fun hle => ?_⟩
    exact le_antisymm (hle _ _ hbdue) (hmin x ((hdue x).mpr hx))

/-- R163: the clock unit presents the work that is preferred and due first, when it alone of the first due is preferred. -/
theorem presentClock_first {s : State} {d : Nat} {w : CkWork} {prefer : CkWork → Bool} (hw : look s.arb.waiting 8 = none)
    (hmem : (d, w) ∈ dueFirst s) (hp : prefer w = true) (honly : ∀ x ∈ dueFirst s, prefer x.2 = true → x.2 = w) :
    presentClock prefer s = presentClockWork w s := by
  unfold presentClock
  rw [show look s.arb.waiting agentCK = none from hw]
  dsimp only
  cases hl : dueFirst s with
  | nil => simp [hl] at hmem
  | cons x l =>
    rw [hl] at hmem honly
    cases l with
    | nil =>
      obtain rfl := List.mem_singleton.mp hmem
      rfl
    | cons y l =>
      dsimp only
      cases hf : (x :: y :: l).find? (fun z => prefer z.2) with
      | none => exact absurd hp (by simpa using List.find?_eq_none.mp hf _ hmem)
      | some z =>
        have hz : prefer z.2 = true := List.find?_some (p := fun z : Nat × CkWork => prefer z.2) hf
        dsimp only
        rw [honly z (List.mem_of_find?_eq_some hf) hz]

theorem presentClock_busy {s : State} (prefer : CkWork → Bool) (hw : look s.arb.waiting 8 ≠ none) :
    presentClock prefer s = s := by
  obtain ⟨w, hw⟩ := Option.ne_none_iff_exists'.mp hw
  unfold presentClock
  rw [show look s.arb.waiting agentCK = some w from hw]

/-- Settles O30: each event presents the first due work of its kind, and changes nothing where none is due. -/
theorem dueWorkPresented : Obligations.DueWorkPresented := by
  refine ⟨fun s d w hrun hw hr hdue hmin => ?_, fun s hrun hr => ?_⟩
  · have hfirst : (d, w) ∈ dueFirst s.fresh := (mem_dueFirst (s := s.fresh) hr (d, w)).mpr ⟨hdue, hmin⟩
    have hall : ∀ x ∈ dueFirst s.fresh, DueAt s x.1 x.2 := fun x hx => ((mem_dueFirst (s := s.fresh) hr x).mp hx).1
    refine ⟨?_, ?_, ?_⟩
    · rintro h k g rfl
      have hd : dueLapse s = some (d, .lapse h k g) := (dueLapse_iff s d _).mpr ⟨h, k, g, rfl, hdue⟩
      refine congrArg Host.Outcome.next ((if_pos ⟨hrun, by rw [hd]; rfl⟩).trans (presentClock_first hw hfirst rfl ?_))
      rintro ⟨e, v⟩ hx hv
      cases v with
      | lapse i j c =>
        have he : dueLapse s = some (e, .lapse i j c) := (dueLapse_iff s e _).mpr ⟨i, j, c, rfl, hall _ hx⟩
        exact (Prod.mk.inj (Option.some.inj (he.symm.trans hd))).2
      | window => cases hv
      | grace n => cases hv
    · rintro n rfl
      have hd : dueGrace s = some (d, .grace n) := (dueGrace_iff hr d _).mpr ⟨n, rfl, hdue⟩
      refine congrArg Host.Outcome.next ((if_pos ⟨hrun, by rw [hd]; rfl⟩).trans (presentClock_first hw hfirst rfl ?_))
      rintro ⟨e, v⟩ hx hv
      cases v with
      | grace m =>
        have he : dueGrace s = some (e, .grace m) := (dueGrace_iff hr e _).mpr ⟨m, rfl, hall _ hx⟩
        exact (Prod.mk.inj (Option.some.inj (he.symm.trans hd))).2
      | window => cases hv
      | lapse i j c => cases hv
    · rintro rfl
      have hd : dueWindow s = some (d, .window) := (dueWindow_iff s d _).mpr ⟨rfl, hdue⟩
      refine congrArg Host.Outcome.next ((if_pos ⟨hrun, by rw [hd]; rfl⟩).trans (presentClock_first hw hfirst rfl ?_))
      rintro ⟨e, v⟩ hx hv
      cases v with
      | window => rfl
      | grace m => cases hv
      | lapse i j c => cases hv
  · have idle : ∀ (due : Option (Nat × CkWork)) (prefer : CkWork → Bool), due = none ∨ look s.arb.waiting 8 ≠ none →
        (if s.part = .running ∧ due.isSome then presentClock prefer s.fresh else s.fresh) = s.fresh := by
      rintro due prefer (rfl | hw)
      · exact if_neg (by simp)
      · rw [presentClock_busy prefer (s := s.fresh) hw, ite_self]
    refine ⟨fun h => congrArg Host.Outcome.next (idle _ _ (.inl (dueLapse_eq_none h))),
      fun h => congrArg Host.Outcome.next (idle _ _ (.inl (dueGrace_eq_none hr h))),
      fun h => congrArg Host.Outcome.next (idle _ _ (.inl (dueWindow_eq_none h))), fun hw => ⟨?_, ?_, ?_⟩⟩
    · exact congrArg Host.Outcome.next (idle _ _ (.inr hw))
    · exact congrArg Host.Outcome.next (idle _ _ (.inr hw))
    · exact congrArg Host.Outcome.next (idle _ _ (.inr hw))

end Sys2Proof.Machine

/-! SUPPORT. How often a change of a person reaches a record, and the re-evaluation of several accounts at one turn. -/

namespace Sys2Proof.Machine

/-! ## Changes of persons and groups (R21, R22, R40) -/

/-- R22: how often a change of account `n` acts on record `m`: once on itself, once on its parent group. -/
def shares (s : State) (n m : Nat) : Nat :=
  match look s.accounts n with
  | none => 0
  | some a => (if m = n then 1 else 0) + (if parentOf a = some m then 1 else 0)

/-- R22, R40: what a change of an account leaves of every record, said for every account. -/
theorem withGroup_shares (s : State) (n : Nat) (f : Account → Account) (m : Nat) :
    look (withGroup n f s).accounts m = (look s.accounts m).map f^[shares s n m] := by
  cases h : look s.accounts n with
  | none => simp [withGroup, shares, h]
  | some a =>
    have hs : shares s n m = (if m = n then 1 else 0) + (if parentOf a = some m then 1 else 0) := by simp [shares, h]
    rw [hs]
    cases hg : parentOf a with
    | none =>
      rw [withGroup_orphan f h hg, modifyAccount_look]
      split <;> simp
    | some g =>
      rw [withGroup_member f h hg, modifyAccount_look, modifyAccount_look]
      by_cases hm : m = n <;> by_cases hmg : m = g
      · simp [hm, ← hmg, Function.comp_def]
      · simp [hm, show g ≠ n by rintro rfl; exact hmg hm, show n ≠ g by rintro rfl; exact hmg hm]
      · simp [hmg, show g ≠ n by rintro rfl; exact hm hmg]
      · simp [hm, hmg, eq_comm (a := g)]

/-- R22: the parent groups are as they were. -/
def SameParents (s t : State) : Prop := ∀ n, (look t.accounts n).map parentOf = (look s.accounts n).map parentOf

theorem shares_congr {s t : State} (h : SameParents s t) (n m : Nat) : shares t n m = shares s n m := by
  have hn := h n
  unfold shares
  cases hs : look s.accounts n <;> cases ht : look t.accounts n <;> simp_all

/-- R22: a change that keeps the parent of every record keeps where later changes act. -/
theorem withGroup_sameParents (s : State) (n : Nat) {f : Account → Account} (hf : ∀ a, parentOf (f a) = parentOf a) :
    SameParents s (withGroup n f s) := by
  intro m
  have hit : ∀ j a, parentOf (f^[j] a) = parentOf a := by
    intro j
    induction j with
    | zero => intro a; rfl
    | succ j ih => intro a; rw [Function.iterate_succ_apply, ih, hf]
  rw [withGroup_shares, Option.map_map]
  congr 1
  exact funext (hit _)

/-- R21, R22, R40: changes of the accounts depend on the accounts alone. -/
theorem withGroup_congr {s t : State} (h : t.accounts = s.accounts) (n : Nat) (f : Account → Account) :
    (withGroup n f t).accounts = (withGroup n f s).accounts := by
  unfold withGroup
  rw [h]
  cases look s.accounts n with
  | none => exact h
  | some a =>
    dsimp only
    cases parentOf a <;> simp [modifyAccount, h]

theorem changeFigures_congr {s t : State} (h : t.accounts = s.accounts) (n : Nat) (f : Figures → Figures) :
    (changeFigures n f t).accounts = (changeFigures n f s).accounts := withGroup_congr h n _

theorem changeStats_congr {s t : State} (h : t.accounts = s.accounts) (n : Nat) (f : Stats → Stats) :
    (changeStats n f t).accounts = (changeStats n f s).accounts := withGroup_congr h n _

/-- An account with its figures and statistics changed. -/
def refigured (f : Figures → Figures) (g : Stats → Stats) (a : Account) : Account :=
  { a with figures := f a.figures, stats := g a.stats }

theorem refigured_refigured (f f' : Figures → Figures) (g g' : Stats → Stats) (a : Account) :
    refigured f g (refigured f' g' a) = refigured (f ∘ f') (g ∘ g') a := rfl

theorem refigured_iterate (f : Figures → Figures) (g : Stats → Stats) (j : Nat) (a : Account) :
    (refigured f g)^[j] a = refigured f^[j] g^[j] a := by
  induction j generalizing a with
  | zero => rfl
  | succ j ih => rw [Function.iterate_succ_apply, ih, refigured_refigured]; rfl

/-- R21, R22: what a change of figures leaves of every record. -/
theorem changeFigures_look (s : State) (n : Nat) (f : Figures → Figures) (m : Nat) :
    look (changeFigures n f s).accounts m = (look s.accounts m).map (refigured f^[shares s n m] id) := by
  change look (withGroup n (refigured f id) s).accounts m = _
  rw [withGroup_shares]
  congr 1
  funext a
  rw [refigured_iterate, Function.iterate_id]

/-- R40: what a change of statistics leaves of every record. -/
theorem changeStats_look (s : State) (n : Nat) (f : Stats → Stats) (m : Nat) :
    look (changeStats n f s).accounts m = (look s.accounts m).map (refigured id f^[shares s n m]) := by
  change look (withGroup n (refigured id f) s).accounts m = _
  rw [withGroup_shares]
  congr 1
  funext a
  rw [refigured_iterate, Function.iterate_id]

theorem changeFigures_sameParents (s : State) (n : Nat) (f : Figures → Figures) : SameParents s (changeFigures n f s) :=
  withGroup_sameParents s n fun _ => rfl

theorem SameParents.trans {s t u : State} (h : SameParents s t) (h' : SameParents t u) : SameParents s u :=
  fun n => (h' n).trans (h n)

/-- R18, R19: every record keeps its body and percent. -/
def SameBodies (s t : State) : Prop :=
  ∀ n, (look t.accounts n).map (fun a => (a.body, a.percent)) = (look s.accounts n).map fun a => (a.body, a.percent)

theorem SameBodies.refl (s : State) : SameBodies s s := fun _ => rfl

theorem SameBodies.trans {s t u : State} (h : SameBodies s t) (h' : SameBodies t u) : SameBodies s u :=
  fun n => (h' n).trans (h n)

theorem SameBodies.of_accounts {s t u : State} (h : SameBodies s t) (e : u.accounts = t.accounts) : SameBodies s u :=
  fun n => by rw [e]; exact h n

theorem SameBodies.look {s t : State} (h : SameBodies s t) {n : Nat} {a : Account} (ha : look s.accounts n = some a) :
    ∃ b, Machine.look t.accounts n = some b ∧ b.body = a.body ∧ b.percent = a.percent := by
  have hn := h n
  rw [ha] at hn
  obtain ⟨b, hb, he⟩ := Option.map_eq_some_iff.mp hn
  exact ⟨b, hb, congrArg Prod.fst he, congrArg Prod.snd he⟩

theorem SameBodies.symm {s t : State} (h : SameBodies s t) : SameBodies t s := fun n => (h n).symm

theorem SameBodies.parents {s t : State} (h : SameBodies s t) : SameParents s t := by
  intro n
  have hn := congrArg (Option.map fun x : AccountBody × Nat => parentOf ⟨x.1, x.2, ⟨0, 0, 0, 0⟩, ⟨0, 0, 0, 0, 0⟩⟩) (h n)
  rw [Option.map_map, Option.map_map] at hn
  exact hn

theorem changeFigures_sameBodies (s : State) (n : Nat) (f : Figures → Figures) : SameBodies s (changeFigures n f s) := by
  intro m
  rw [changeFigures_look, Option.map_map]
  rfl

/-! ## The re-evaluation of several accounts (R31, R32) -/

/-- R31: a record after its re-evaluation. -/
def requoted (now : Nat) (a : Account) : Account :=
  match a.body with
  | .person p => { a with body := .person { p with quota := nextQuota now p (standingUse a) } }
  | .group _ => a

theorem requoted_person {now : Nat} {a : Account} {p : Person} (h : a.body = .person p) :
    requoted now a = { a with body := .person { p with quota := nextQuota now p (standingUse a) } } := by
  simp [requoted, h]

theorem requoted_group {now : Nat} {a : Account} {g : Group} (h : a.body = .group g) : requoted now a = a := by
  simp [requoted, h]

/-- R31: a re-evaluation changes the body alone. -/
theorem requoted_keeps (now : Nat) (a : Account) : (requoted now a).percent = a.percent ∧
    (requoted now a).figures = a.figures ∧ (requoted now a).stats = a.stats := by
  unfold requoted
  split <;> exact ⟨rfl, rfl, rfl⟩

theorem standingUse_requoted (now : Nat) (a : Account) : standingUse (requoted now a) = standingUse a := by
  obtain ⟨hp, hf, -⟩ := requoted_keeps now a
  rw [standingUse, standingUse, hp, hf]

/-- R32: the notice that the re-evaluation of account `n` sends, if it is a person whose quota state changes. -/
def noticeOf (s : State) (n : Nat) : Option Notice :=
  match look s.accounts n with
  | some ⟨.person p, percent, figures, stats⟩ => quotaNotice s.clock.now n ⟨.person p, percent, figures, stats⟩ p
  | _ => none

theorem noticeOf_person {s : State} {n : Nat} {a : Account} {p : Person} (h : look s.accounts n = some a)
    (hb : a.body = .person p) : noticeOf s n = quotaNotice s.clock.now n a p := by
  obtain ⟨body, _, _, _⟩ := a
  cases hb
  simp [noticeOf, h]

theorem noticeOf_group {s : State} {n : Nat} {a : Account} {g : Group} (h : look s.accounts n = some a)
    (hb : a.body = .group g) : noticeOf s n = none := by
  obtain ⟨body, _, _, _⟩ := a
  cases hb
  simp [noticeOf, h]

theorem noticeOf_none {s : State} {n : Nat} (h : look s.accounts n = none) : noticeOf s n = none := by
  simp [noticeOf, h]

theorem toldHeadAll_cons (n : Notice) (l : List Notice) (H : Head) :
    toldHeadAll (n :: l) H = toldHeadAll l (toldHead (some n) H) := rfl

theorem noticedMgmtAll_append (l l' : List Notice) (M : Mlu) :
    noticedMgmtAll (l ++ l') M = noticedMgmtAll l' (noticedMgmtAll l M) := List.foldl_append

/-- R31, R32: one re-evaluation, said for every account. -/
theorem reevaluate_outcome (s : State) (n : Nat) :
    (∀ m, look (reevaluate n s).accounts m =
      if m = n then (look s.accounts m).map (requoted s.clock.now) else look s.accounts m) ∧
    (∀ i, (reevaluate n s).heads.get i = toldHead (noticeOf s n) (s.heads.get i)) ∧
    (reevaluate n s).mlu = toldMgmt (noticeOf s n) s.mlu := by
  have same : reevaluate n s = s → noticeOf s n = none → (look s.accounts n).map (requoted s.clock.now) = look s.accounts n →
      _ := fun hs hn ha => show
      (∀ m, look (reevaluate n s).accounts m =
        if m = n then (look s.accounts m).map (requoted s.clock.now) else look s.accounts m) ∧
      (∀ i, (reevaluate n s).heads.get i = toldHead (noticeOf s n) (s.heads.get i)) ∧
      (reevaluate n s).mlu = toldMgmt (noticeOf s n) s.mlu by
    rw [hs, hn]
    refine ⟨fun m => ?_, fun i => rfl, rfl⟩
    split
    · next hm => rw [hm, ha]
    · rfl
  cases ha : look s.accounts n with
  | none => exact same (reevaluate_of_none ha) (noticeOf_none ha) (by rw [ha]; rfl)
  | some a =>
    cases hb : a.body with
    | group g =>
      exact same (reevaluate_of_group ha hb) (noticeOf_group ha hb) (by rw [ha, Option.map_some, requoted_group hb])
    | person p =>
      obtain ⟨hacc, hheads, hmlu⟩ := reevaluate_person ha hb
      rw [noticeOf_person ha hb]
      refine ⟨fun m => ?_, hheads, hmlu⟩
      rw [hacc]
      split
      · next hm => rw [hm, ha, Option.map_some, requoted_person hb]
      · rfl

/-- R31: the re-evaluation of the accounts of a list, in its order. -/
def reevaluateAll (owners : List Nat) (s : State) : State := owners.foldl (fun s n => reevaluate n s) s

/-- R32: the notices of the re-evaluation of the accounts of a list. -/
def noticesOf (owners : List Nat) (s : State) : List Notice := owners.filterMap (noticeOf s)

theorem reevaluateAll_eq (owners : List Nat) (s : State) : reevaluateAll owners s = { s with
    accounts := (reevaluateAll owners s).accounts, heads := (reevaluateAll owners s).heads,
    mlu := (reevaluateAll owners s).mlu } := by
  induction owners generalizing s with
  | nil => rfl
  | cons n owners ih =>
    refine (ih (reevaluate n s)).trans ?_
    simp [reevaluateAll]

/-- R32: re-evaluating one account leaves the notices of the others. -/
theorem noticeOf_reevaluate {s : State} {n m : Nat} (h : m ≠ n) : noticeOf (reevaluate n s) m = noticeOf s m := by
  have hl : look (reevaluate n s).accounts m = look s.accounts m := by
    rw [(reevaluate_outcome s n).1, if_neg h]
  have hc : (reevaluate n s).clock = s.clock := by simp
  simp only [noticeOf, hl, hc]

/-- R31, R32: what the re-evaluation of distinct accounts leaves of the records, the heads and the management link. -/
theorem reevaluateAll_outcome {owners : List Nat} (hd : owners.Nodup) (s : State) :
    (∀ m, look (reevaluateAll owners s).accounts m =
      if m ∈ owners then (look s.accounts m).map (requoted s.clock.now) else look s.accounts m) ∧
    (∀ i, (reevaluateAll owners s).heads.get i = toldHeadAll (noticesOf owners s) (s.heads.get i)) ∧
    (reevaluateAll owners s).mlu = noticedMgmtAll (noticesOf owners s) s.mlu := by
  induction owners generalizing s with
  | nil => exact ⟨fun m => rfl, fun i => rfl, rfl⟩
  | cons n owners ih =>
    obtain ⟨hn, hd⟩ := List.nodup_cons.mp hd
    obtain ⟨hacc, hheads, hmlu⟩ := reevaluate_outcome s n
    obtain ⟨hacc', hheads', hmlu'⟩ := ih hd (reevaluate n s)
    have hclock : (reevaluate n s).clock = s.clock := by simp
    have hrest : noticesOf owners (reevaluate n s) = noticesOf owners s := by
      refine List.filterMap_congr fun m hm => noticeOf_reevaluate ?_
      rintro rfl
      exact hn hm
    change (∀ m, look (reevaluateAll owners (reevaluate n s)).accounts m = _) ∧
      (∀ i, (reevaluateAll owners (reevaluate n s)).heads.get i = _) ∧
      (reevaluateAll owners (reevaluate n s)).mlu = _
    refine ⟨fun m => ?_, fun i => ?_, ?_⟩
    · rw [hacc', hclock, hacc]
      by_cases hm : m = n
      · subst hm
        simp [hn]
      · simp [hm]
    · rw [hheads', hheads, hrest, noticesOf, noticesOf, List.filterMap_cons]
      cases noticeOf s n <;> rfl
    · rw [hmlu', hmlu, hrest, noticesOf, noticesOf, List.filterMap_cons]
      cases noticeOf s n <;> rfl

/-- R32: the account that an ACCOUNT_STATE notice names. -/
theorem noticeOf_eq_some {s : State} {n : Nat} {z : Notice} : noticeOf s n = some z ↔ ∃ a p,
    look s.accounts n = some a ∧ a.body = .person p ∧ nextQuota s.clock.now p (standingUse a) ≠ p.quota ∧
    z = .accountState n p.quota.name (nextQuota s.clock.now p (standingUse a)) (standingUse a) (softLimit p) := by
  cases ha : look s.accounts n with
  | none => simp [noticeOf_none ha]
  | some a =>
    cases hb : a.body with
    | group g => simp [noticeOf_group ha hb, hb]
    | person p =>
      rw [noticeOf_person ha hb, quotaNotice, stateNotice]
      by_cases hq : nextQuota s.clock.now p (standingUse a) = p.quota
      · simp [hq, hb]
      · rw [if_neg hq]
        refine ⟨fun h => ⟨a, p, rfl, hb, hq, (Option.some.inj h).symm⟩, ?_⟩
        rintro ⟨a', p', ha', hb', -, rfl⟩
        obtain rfl := Option.some.inj ha'
        obtain rfl := AccountBody.person.inj (hb.symm.trans hb')
        rfl

/-- R32: an account whose re-evaluation is told is told once. -/
theorem noticesOf_nodup {owners : List Nat} (hd : owners.Nodup) (s : State) : (noticesOf owners s).Nodup := by
  refine List.Nodup.filterMap (fun n m z hn hm => ?_) hd
  obtain ⟨a, p, -, -, -, rfl⟩ := noticeOf_eq_some.mp hn
  obtain ⟨b, q, -, -, -, hz⟩ := noticeOf_eq_some.mp hm
  exact (Notice.accountState.inj hz).1

/-- R31, R32: the notices of the re-evaluation of accounts whose figures have changed since `s` tell each change once. -/
theorem noticesOf_told {s u t : State} {owners : List Nat} {touched : Nat → Prop} (hd : owners.Nodup)
    (ht : ∀ n, touched n ↔ n ∈ owners) (hb : SameBodies s u) (hc : u.clock.now = s.clock.now)
    (hl : ∀ m, look t.accounts m =
      if m ∈ owners then (look u.accounts m).map (requoted s.clock.now) else look u.accounts m) :
    QuotaChangesTold touched s t (noticesOf owners u) := by
  refine ⟨noticesOf_nodup hd u, fun z => ?_⟩
  simp only [noticesOf, List.mem_filterMap, noticeOf_eq_some, hc]
  constructor
  · rintro ⟨n, hn, b, p, hb', hp, hq, rfl⟩
    obtain ⟨a, ha, hab, -⟩ := hb.symm.look hb'
    refine ⟨n, a, p, requoted s.clock.now b, (ht n).mpr hn, ha, hab.trans hp, ?_, ?_⟩
    · rw [hl, if_pos hn, hb', Option.map_some]
    · rw [standingUse_requoted]
      exact ⟨hq, rfl⟩
  · rintro ⟨n, a, p, b, hn, ha, hp, hb', hq, rfl⟩
    have hn := (ht n).mp hn
    obtain ⟨b', hu, hbody, -⟩ := hb.look ha
    rw [hl, if_pos hn, hu, Option.map_some, Option.some.injEq] at hb'
    subst hb'
    rw [standingUse_requoted] at hq ⊢
    exact ⟨n, hn, b', p, hu, hbody.trans hp, hq, rfl⟩

/-- R31: the records after the re-evaluation of some accounts, from records whose figures have changed since `s`. -/
theorem requoted_records {s u t : State} {owners : List Nat} (hb : SameBodies s u)
    (hl : ∀ m, look t.accounts m =
      if m ∈ owners then (look u.accounts m).map (requoted s.clock.now) else look u.accounts m)
    {n : Nat} {a : Account} (ha : look s.accounts n = some a) :
    ∃ c b, look u.accounts n = some c ∧ look t.accounts n = some b ∧ b.percent = a.percent ∧ b.stats = c.stats ∧
      (n ∉ owners → b.body = a.body) ∧ (∀ g, a.body = .group g → b.body = a.body) ∧
      ∀ p, n ∈ owners → a.body = .person p →
        b.body = .person { p with quota := nextQuota s.clock.now p (standingUse b) } := by
  obtain ⟨c, hu, hbody, hpercent⟩ := hb.look ha
  by_cases hn : n ∈ owners
  · obtain ⟨hp, -, hs⟩ := requoted_keeps s.clock.now c
    refine ⟨c, requoted s.clock.now c, hu, by rw [hl, if_pos hn, hu, Option.map_some], hp.trans hpercent, hs,
      fun h => absurd hn h, fun g hg => ?_, fun p _ hp => ?_⟩
    · rw [requoted_group (hbody.trans hg), hbody]
    · rw [standingUse_requoted, requoted_person (hbody.trans hp)]
  · exact ⟨c, c, hu, by rw [hl, if_neg hn, hu], hpercent, rfl, fun _ => hbody, fun _ _ => hbody, fun _ h => absurd h hn⟩

/-- R21: a re-evaluation leaves the figures. -/
theorem requoted_figuresOf {u t : State} {owners : List Nat} {now : Nat}
    (hl : ∀ m, look t.accounts m = if m ∈ owners then (look u.accounts m).map (requoted now) else look u.accounts m)
    (n : Nat) : figuresOf t n = figuresOf u n := by
  unfold figuresOf
  rw [hl]
  split
  · rw [Option.map_map]
    congr 2
    exact funext fun a => (requoted_keeps now a).2.1
  · rfl

end Sys2Proof.Machine

/-! SUPPORT. Retention chains (R83, R85): what unlinking a record does, and the chain that is left. -/

namespace Sys2Proof.Machine

/-! ## Unlinking a record (R85) -/

/-- R85: what unlinking the record between `pred` and `succ` does to the record of extent `y`. -/
def bridge (pred succ : Option Nat) (y : Nat) (e : Extent) : Extent :=
  let e := if pred = some y then withSucc succ e else e
  if succ = some y then withPred pred e else e

@[simp] theorem withoutLinks_withSucc (n : Option Nat) (e : Extent) : withoutLinks (withSucc n e) = withoutLinks e := by
  cases e <;> rfl

@[simp] theorem withoutLinks_withPred (n : Option Nat) (e : Extent) : withoutLinks (withPred n e) = withoutLinks e := by
  cases e <;> rfl

@[simp] theorem withoutLinks_bridge (pred succ : Option Nat) (y : Nat) (e : Extent) :
    withoutLinks (bridge pred succ y e) = withoutLinks e := by
  unfold bridge
  split <;> split <;> simp

/-- R85: unlinking changes the links of RETAINED records alone. -/
theorem bridge_retained (pred succ : Option Nat) (y v o b h d : Nat) (p q : Option Nat) :
    bridge pred succ y (.retained v o b h d p q) =
      .retained v o b h d (if succ = some y then pred else p) (if pred = some y then succ else q) := by
  unfold bridge
  split <;> split <;> rfl

theorem bridge_of_ne {pred succ : Option Nat} {y : Nat} (hp : pred ≠ some y) (hs : succ ≠ some y) (e : Extent) :
    bridge pred succ y e = e := by
  simp [bridge, hp, hs]

theorem withoutLinks_retained {e : Extent} {v o b h d : Nat} {p q : Option Nat} :
    withoutLinks e = .retained v o b h d p q ↔ p = none ∧ q = none ∧ ∃ p' q', e = .retained v o b h d p' q' := by
  cases e <;> simp [withoutLinks]
  tauto

/-- R83: reading a RETAINED record, its links left open. -/
theorem map_withoutLinks_retained {o : Option Extent} {v w b h d : Nat} :
    o.map withoutLinks = some (.retained v w b h d none none) ↔ ∃ p q, o = some (.retained v w b h d p q) := by
  cases o with
  | none => simp
  | some e => simp [withoutLinks_retained]

theorem adjustExtent_look (x : Option Nat) (f : Extent → Extent) (s : State) (y : Nat) :
    look (adjustExtent x f s).pool.extents y =
      if x = some y then (look s.pool.extents y).map f else look s.pool.extents y := by
  cases x with
  | none => rfl
  | some x =>
    rw [adjustExtent, look_adjust]
    simp only [Option.some.injEq, eq_comm (a := y)]

/-- R85: unlinking bridges the gap in the extent table. -/
theorem unlinkChain_look (v : Nat) (pred succ : Option Nat) (s : State) (y : Nat) :
    look (unlinkChain v pred succ s).pool.extents y = (look s.pool.extents y).map (bridge pred succ y) := by
  change look (adjustExtent succ (withPred pred) (adjustExtent pred (withSucc succ) s)).pool.extents y = _
  rw [adjustExtent_look, adjustExtent_look]
  unfold bridge
  cases look s.pool.extents y with
  | none => split <;> split <;> rfl
  | some e => split <;> split <;> rfl

theorem adjustExtent_pool (x : Option Nat) (f : Extent → Extent) (s : State) :
    (adjustExtent x f s).pool = { s.pool with extents := (adjustExtent x f s).pool.extents } := by
  cases x <;> rfl

/-- R85: unlinking changes the extent table alone of the pool. -/
theorem unlinkChain_pool (v : Nat) (pred succ : Option Nat) (s : State) :
    (unlinkChain v pred succ s).pool = { s.pool with extents := (unlinkChain v pred succ s).pool.extents } := by
  change (adjustExtent succ (withPred pred) (adjustExtent pred (withSucc succ) s)).pool = _
  rw [adjustExtent_pool, adjustExtent_pool pred]
  rfl

theorem adjustExtent_keys (x : Option Nat) (f : Extent → Extent) (s : State) :
    (adjustExtent x f s).pool.extents.map Prod.fst = s.pool.extents.map Prod.fst := by
  cases x with
  | none => rfl
  | some x => exact adjust_keys ..

theorem unlinkChain_keys (v : Nat) (pred succ : Option Nat) (s : State) :
    (unlinkChain v pred succ s).pool.extents.map Prod.fst = s.pool.extents.map Prod.fst :=
  (adjustExtent_keys ..).trans (adjustExtent_keys ..)

/-- R85: a volume whose chain has lost the record between `pred` and `succ`. -/
def unchained (pred succ : Option Nat) (V : Volume) : Volume :=
  { V with chainHead := if pred = none then succ else V.chainHead, chainTail := if succ = none then pred else V.chainTail,
           chainCount := V.chainCount - 1 }

theorem unlinkChain_volumes (v : Nat) (pred succ : Option Nat) (s : State) (w : Nat) :
    look (unlinkChain v pred succ s).volumes w =
      if w = v then (look s.volumes w).map (unchained pred succ) else look s.volumes w := by
  have hv : (adjustExtent succ (withPred pred) (adjustExtent pred (withSucc succ) s)).volumes = s.volumes := by simp
  change look (modifyVolume v (unchained pred succ) _).volumes w = _
  rw [modifyVolume_look, hv]

/-! ## The records of a chain by their place (R83) -/

/-- The neighbours of an item by its index, and by what stands before and after it. -/
theorem neighbours (A B : List Nat) (y : Nat) : (A ++ y :: B)[A.length]? = some y ∧
    (if A.length = 0 then none else (A ++ y :: B)[A.length - 1]?) = A.getLast? ∧
    (A ++ y :: B)[A.length + 1]? = B.head? := by
  refine ⟨by simp, ?_, ?_⟩
  · rcases A.eq_nil_or_concat' with rfl | ⟨A, a, rfl⟩
    · rfl
    · simp
  · rw [List.getElem?_append_right (by omega)]
    cases B <;> simp

/-- R83: the record at a place of a chain, linked to the last before it and the first after it. -/
theorem ChainOf.record {s : State} {v : Nat} {V : Volume} {A B : List Nat} {y : Nat}
    (h : ChainOf s v V (A ++ y :: B)) : ∃ o b sh d, d ≤ V.openEpoch ∧
      look s.pool.extents y = some (.retained v o b sh d A.getLast? B.head?) := by
  obtain ⟨hy, hp, hn⟩ := neighbours A B y
  obtain ⟨o, b, sh, d, hd, hl⟩ := h.linked A.length y hy
  rw [hp, hn] at hl
  exact ⟨o, b, sh, d, hd, hl⟩

/-- R83: the order of a chain is kept by a part of it whose records keep their death epochs. -/
theorem chainOrder_sublist {s t : State} {v : Nat} {L L' : List Nat} (hs : L'.Sublist L)
    (hrec : ∀ x ∈ L', ∀ o b sh d p q, look t.pool.extents x = some (.retained v o b sh d p q) →
      ∃ p' q', look s.pool.extents x = some (.retained v o b sh d p' q'))
    (h : ∀ (i j x y ox bx sx dx oy by_ sy dy : Nat) (px qx py qy : Option Nat), i ≤ j → L[i]? = some x → L[j]? = some y →
      look s.pool.extents x = some (.retained v ox bx sx dx px qx) →
      look s.pool.extents y = some (.retained v oy by_ sy dy py qy) → dx ≤ dy)
    (i j x y ox bx sx dx oy by_ sy dy : Nat) (px qx py qy : Option Nat) (hij : i ≤ j) (hx : L'[i]? = some x)
    (hy : L'[j]? = some y) (hlx : look t.pool.extents x = some (.retained v ox bx sx dx px qx))
    (hly : look t.pool.extents y = some (.retained v oy by_ sy dy py qy)) : dx ≤ dy := by
  obtain ⟨f, hf⟩ := List.sublist_iff_exists_orderEmbedding_getElem?_eq.mp hs
  obtain ⟨px', qx', hlx'⟩ := hrec x (List.mem_of_getElem? hx) _ _ _ _ _ _ hlx
  obtain ⟨py', qy', hly'⟩ := hrec y (List.mem_of_getElem? hy) _ _ _ _ _ _ hly
  exact h (f i) (f j) x y _ _ _ _ _ _ _ _ _ _ _ _ (f.monotone hij) ((hf i).symm.trans hx) ((hf j).symm.trans hy) hlx' hly'

/-- R83: a chain stays where the records of its volume and the chain's fields stay. -/
theorem ChainOf.congr {s t : State} {v : Nat} {V W : Volume} {L : List Nat} (h : ChainOf s v V L)
    (hrec : ∀ x o b sh d p q, look t.pool.extents x = some (.retained v o b sh d p q) ↔
      look s.pool.extents x = some (.retained v o b sh d p q))
    (hhead : W.chainHead = V.chainHead) (htail : W.chainTail = V.chainTail) (hcount : W.chainCount = V.chainCount)
    (hopen : W.openEpoch = V.openEpoch) : ChainOf t v W L where
  ends := by rw [hhead, htail, hcount]; exact h.ends
  once := h.once
  linked i x hx := by
    obtain ⟨o, b, sh, d, hd, hl⟩ := h.linked i x hx
    exact ⟨o, b, sh, d, hopen ▸ hd, (hrec ..).mpr hl⟩
  whole x o b sh d p q hx := h.whole x o b sh d p q ((hrec ..).mp hx)
  order := chainOrder_sublist (List.Sublist.refl L) (fun x _ _ _ _ _ p q hx => ⟨p, q, (hrec ..).mp hx⟩) h.order

/-- R85: the record of `y`, which stood after the one that left, is linked across the gap. -/
theorem ChainOf.bridged_after {s : State} {v : Nat} {V : Volume} {A E D : List Nat} {x y : Nat}
    (h : ChainOf s v V (A ++ x :: (E ++ y :: D))) : ∃ o b sh d, d ≤ V.openEpoch ∧
      (look s.pool.extents y).map (bridge A.getLast? (E ++ y :: D).head? y) =
        some (.retained v o b sh d (A ++ E).getLast? D.head?) := by
  obtain ⟨o, b, sh, d, hd, hl⟩ := ChainOf.record (A := A ++ x :: E) (B := D) (y := y) (by simpa using h)
  refine ⟨o, b, sh, d, hd, ?_⟩
  have honce : y ∉ A ++ x :: E ++ D :=
    (List.nodup_cons.mp (List.nodup_middle.mp (show (A ++ x :: E ++ y :: D).Nodup by simpa using h.once))).1
  have hyA : A.getLast? ≠ some y := fun hlast => honce (by simp [List.mem_of_getLast? hlast])
  rw [hl, Option.map_some, bridge_retained, if_neg hyA]
  congr 2
  rcases E.eq_nil_or_concat' with rfl | ⟨E, e, rfl⟩
  · simp
  · have hne : ((E ++ [e]) ++ y :: D).head? ≠ some y := by
      intro hhead
      cases E with
      | nil => exact honce (by simp_all)
      | cons z E => exact honce (by simp_all)
    rw [if_neg hne, ← List.append_assoc, List.getLast?_concat, ← List.cons_append, ← List.append_assoc,
      List.getLast?_concat]

/-- R85: the record of `y`, which stood before the one that left, is linked across the gap. -/
theorem ChainOf.bridged_before {s : State} {v : Nat} {V : Volume} {C E B : List Nat} {x y : Nat}
    (h : ChainOf s v V ((C ++ y :: E) ++ x :: B)) : ∃ o b sh d, d ≤ V.openEpoch ∧
      (look s.pool.extents y).map (bridge (C ++ y :: E).getLast? B.head? y) =
        some (.retained v o b sh d C.getLast? (E ++ B).head?) := by
  obtain ⟨o, b, sh, d, hd, hl⟩ := ChainOf.record (A := C) (B := E ++ x :: B) (y := y) (by simpa using h)
  refine ⟨o, b, sh, d, hd, ?_⟩
  have honce : y ∉ C ++ (E ++ x :: B) :=
    (List.nodup_cons.mp (List.nodup_middle.mp (show (C ++ y :: (E ++ x :: B)).Nodup by simpa using h.once))).1
  have hyB : B.head? ≠ some y := fun hhead => honce (by simp [List.mem_of_mem_head? hhead])
  rw [hl, Option.map_some, bridge_retained, if_neg hyB]
  congr 2
  cases E with
  | nil => simp
  | cons e E =>
    have hne : (C ++ y :: e :: E).getLast? ≠ some y := by
      rw [List.getLast?_append_cons, List.getLast?_cons_cons]
      exact fun hlast => honce (List.mem_append_right C (List.mem_append_left _ (List.mem_of_getLast? hlast)))
    rw [if_neg hne]
    rfl

/-- R85: the chain that is left when a record leaves it: its neighbours are linked, and the ends follow. -/
theorem ChainOf.removed {s t : State} {v : Nat} {V W : Volume} {A B : List Nat} {x : Nat}
    (h : ChainOf s v V (A ++ x :: B))
    (hrec : ∀ y, y ≠ x → look t.pool.extents y = (look s.pool.extents y).map (bridge A.getLast? B.head? y))
    (hx : ∀ o b sh d p q, look t.pool.extents x ≠ some (.retained v o b sh d p q))
    (hhead : W.chainHead = (unchained A.getLast? B.head? V).chainHead)
    (htail : W.chainTail = (unchained A.getLast? B.head? V).chainTail)
    (hcount : W.chainCount = (unchained A.getLast? B.head? V).chainCount) (hopen : W.openEpoch = V.openEpoch) :
    ChainOf t v W (A ++ B) := by
  obtain ⟨hh, ht, hc⟩ := h.ends
  have hxAB : x ∉ A ++ B := (List.nodup_cons.mp (List.nodup_middle.mp h.once)).1
  have retained : ∀ y o b sh d p q, look t.pool.extents y = some (.retained v o b sh d p q) →
      ∃ p' q', look s.pool.extents y = some (.retained v o b sh d p' q') := by
    intro y o b sh d p q hy
    have hyx : y ≠ x := by
      rintro rfl
      exact hx o b sh d p q hy
    have := congrArg (Option.map withoutLinks) ((hrec y hyx).symm.trans hy)
    simp only [Option.map_map, Function.comp_def, withoutLinks_bridge, Option.map_some] at this
    exact map_withoutLinks_retained.mp this
  have placed : ∀ C D y, A ++ B = C ++ y :: D → ∃ o b sh d, d ≤ V.openEpoch ∧
      look t.pool.extents y = some (.retained v o b sh d C.getLast? D.head?) := by
    intro C D y hCD
    have hyx : y ≠ x := by
      rintro rfl
      exact hxAB (hCD ▸ by simp)
    rw [hrec y hyx]
    have after : ∀ E, C = A ++ E → B = E ++ y :: D → _ := fun E hC hB =>
      show ∃ o b sh d, d ≤ V.openEpoch ∧ (look s.pool.extents y).map (bridge A.getLast? B.head? y) =
        some (.retained v o b sh d C.getLast? D.head?) by
      subst hC hB
      exact h.bridged_after
    rcases List.append_eq_append_iff.mp hCD with ⟨E, hC, hB⟩ | ⟨E, hA, hD⟩
    · exact after E hC hB
    · cases E with
      | nil => exact after [] (by simpa using hA.symm) (by simpa using hD.symm)
      | cons e E =>
        obtain ⟨rfl, rfl⟩ := List.cons.inj hD
        subst hA
        exact h.bridged_before
  have sub : (A ++ B).Sublist (A ++ x :: B) := (List.Sublist.refl A).append (List.sublist_cons_self x B)
  refine ⟨⟨?_, ?_, ?_⟩, h.once.sublist sub, fun i y hi => ?_, fun y o b sh d p q hy => ?_,
    chainOrder_sublist sub (fun y _ => retained y) h.order⟩
  · rw [hhead, unchained, hh]
    cases A <;> simp
  · rw [htail, unchained, ht]
    rcases B.eq_nil_or_concat' with rfl | ⟨B, b, rfl⟩
    · simp
    · simp [List.getLast?_append, List.getLast?_cons]
  · rw [hcount, unchained, hc]
    simp
  · obtain ⟨hlt, hget⟩ := List.getElem?_eq_some_iff.mp hi
    have hsplit : A ++ B = (A ++ B).take i ++ y :: (A ++ B).drop (i + 1) := by
      rw [← hget, List.getElem_cons_drop, List.take_append_drop]
    obtain ⟨-, hp, hn⟩ := neighbours ((A ++ B).take i) ((A ++ B).drop (i + 1)) y
    rw [← hsplit, List.length_take_of_le hlt.le] at hp hn
    rw [hp, hn, hopen]
    exact placed _ _ y hsplit
  · obtain ⟨p', q', hy'⟩ := retained y o b sh d p q hy
    have hm := h.whole y o b sh d p' q' hy'
    have hyx : y ≠ x := by
      rintro rfl
      exact hx o b sh d p q hy
    simpa [hyx] using hm

end Sys2Proof.Machine

/-! SUPPORT. The expiry walk (R86 to R91): what a free leaves, and how far a step has come. -/

namespace Sys2Proof.Machine

/-! ## A free by the walk (R90) -/

/-- R90: one RETAINED extent of account `o` less. -/
def chargeOff (o : Nat) (s : State) : State := changeFigures o (fun f => { f with retained := f.retained - 1 }) s

/-- R90: one RETAINED extent less for each owner of a list. -/
def chargeOffAll (owners : List Nat) (s : State) : State := owners.foldl (fun s o => chargeOff o s) s

theorem chargeOffAll_congr {s t : State} (h : t.accounts = s.accounts) (owners : List Nat) :
    (chargeOffAll owners t).accounts = (chargeOffAll owners s).accounts := by
  induction owners generalizing s t with
  | nil => exact h
  | cons o owners ih => exact ih (changeFigures_congr h o _)

theorem chargeOffAll_sameBodies (owners : List Nat) (s : State) : SameBodies s (chargeOffAll owners s) := by
  induction owners generalizing s with
  | nil => exact SameBodies.refl s
  | cons o owners ih => exact (changeFigures_sameBodies s o _).trans (ih _)

/-- R40: a free leaves the statistics. -/
theorem chargeOffAll_stats (owners : List Nat) (s : State) (n : Nat) :
    (look (chargeOffAll owners s).accounts n).map (·.stats) = (look s.accounts n).map (·.stats) := by
  induction owners generalizing s with
  | nil => rfl
  | cons o owners ih =>
    refine (ih _).trans ?_
    change (look (changeFigures o _ s).accounts n).map _ = _
    rw [changeFigures_look, Option.map_map]
    rfl

theorem walkFree_eq (v x o : Nat) (pred succ : Option Nat) (s : State) : walkFree v x o pred succ s = { s with
    pool := (walkFree v x o pred succ s).pool, volumes := (walkFree v x o pred succ s).volumes,
    accounts := (walkFree v x o pred succ s).accounts } := by
  apply State.eq_of
  all_goals simp [walkFree]

theorem walkFree_accounts (v x o : Nat) (pred succ : Option Nat) (s : State) :
    (walkFree v x o pred succ s).accounts = (chargeOff o s).accounts :=
  changeFigures_congr (by simp) o _

/-- R6, R90: the pool after a free. -/
theorem walkFree_pool (v x o : Nat) (pred succ : Option Nat) (s : State) : (walkFree v x o pred succ s).pool = { s.pool with
    free := s.pool.free + 1, zoneFree := zoneGain s.pool.zoneFree (zoneOf s.pool x),
    extents := unlist (unlinkChain v pred succ s).pool.extents x } := by
  have h : (walkFree v x o pred succ s).pool = (enterFree x v (unlinkChain v pred succ s)).pool := by simp [walkFree]
  rw [h]
  change Pool.mk _ _ _ _ _ = _
  rw [unlinkChain_pool]
  rfl

theorem walkFree_rising {v x o : Nat} {pred succ : Option Nat} {s : State} (h : Rising s.pool.extents) :
    Rising (walkFree v x o pred succ s).pool.extents := by
  rw [walkFree_pool]
  exact rising_unlist x (by rw [Rising, unlinkChain_keys]; exact h)

/-- R85, R90: a free removes the record and bridges the gap. -/
theorem walkFree_look {v x o : Nat} {pred succ : Option Nat} {s : State} (h : Rising s.pool.extents) (y : Nat) :
    look (walkFree v x o pred succ s).pool.extents y =
      if y = x then none else (look s.pool.extents y).map (bridge pred succ y) := by
  rw [walkFree_pool]
  split
  · next hy => rw [hy, look_unlist_self x (by rw [Rising, unlinkChain_keys]; exact h)]
  · next hy => rw [look_unlist_ne _ hy, unlinkChain_look]

/-- R64, R85: the volume of a freed extent. -/
def freedFrom (pred succ : Option Nat) (V : Volume) : Volume := { unchained pred succ V with held := V.held - 1 }

theorem walkFree_volumes (v x o : Nat) (pred succ : Option Nat) (s : State) (w : Nat) :
    look (walkFree v x o pred succ s).volumes w =
      if w = v then (look s.volumes w).map (freedFrom pred succ) else look s.volumes w := by
  have h : (walkFree v x o pred succ s).volumes = (enterFree x v (unlinkChain v pred succ s)).volumes := by simp [walkFree]
  rw [h, enterFree, modifyVolume_look]
  change (if w = v then (look (unlinkChain v pred succ s).volumes w).map _ else look (unlinkChain v pred succ s).volumes w) = _
  rw [unlinkChain_volumes]
  split
  · rw [Option.map_map]
    rfl
  · rfl

theorem zoneGain_getD (zones : List Nat) (z y : Nat) (h : y < zones.length) :
    (zoneGain zones z).getD y 0 = zones.getD y 0 + if z = y then 1 else 0 := by
  unfold zoneGain
  simp only [List.getD_eq_getElem?_getD, List.getElem?_set]
  split
  · next hz =>
    subst hz
    simp [h]
  · simp

theorem zoneGain_length (zones : List Nat) (z : Nat) : (zoneGain zones z).length = zones.length := by
  simp [zoneGain]

/-! ## A record of the walk (R89) -/

/-- R86, R89: the walked snapshot held content born at `b` and dead at `d`, and no LIVE snapshot of the catalogue holds it. -/
def walkFrees (epoch : Nat) (V : Volume) (b d : Nat) : Prop :=
  b ≤ epoch ∧ epoch < d ∧ ∀ z ∈ V.catalogue, z.state = .live → ¬ (b ≤ z.epoch ∧ z.epoch < d)

theorem hasHolder_false {V : Volume} {b d : Nat} :
    hasHolder V b d = false ↔ ∀ z ∈ V.catalogue, z.state = .live → ¬ (b ≤ z.epoch ∧ z.epoch < d) := by
  simp [hasHolder]

/-- R89: the walk after a record whose successor is `succ`. -/
def walkedOn (w : Walk) (x : Nat) (succ : Option Nat) : Walk :=
  { w with visited := w.visited + 1, position := succ, finished := w.finished || w.endMarker = some x }

theorem walkRecord_frees {s : State} {w : Walk} {owners : List Nat} {x v o b h d : Nat} {pred succ : Option Nat} {V : Volume}
    (hx : extentAt s.pool x = some (.retained v o b h d pred succ)) (hV : volume? s w.volume = some V)
    (hf : walkFrees w.epoch V b d) : walkRecord s w owners x =
      (walkFree v x o pred succ s, { walkedOn w x succ with freed := w.freed + 1 },
        if o ∈ owners then owners else owners ++ [o]) := by
  have hc : b ≤ w.epoch ∧ w.epoch < d ∧ hasHolder V b d = false := ⟨hf.1, hf.2.1, hasHolder_false.mpr hf.2.2⟩
  simp only [walkRecord, hx, hV, walkedOn, if_pos hc]

theorem walkRecord_keeps {s : State} {w : Walk} {owners : List Nat} {x v o b h d : Nat} {pred succ : Option Nat} {V : Volume}
    (hx : extentAt s.pool x = some (.retained v o b h d pred succ)) (hV : volume? s w.volume = some V)
    (hf : ¬ walkFrees w.epoch V b d) : walkRecord s w owners x = (s, walkedOn w x succ, owners) := by
  have hc : ¬ (b ≤ w.epoch ∧ w.epoch < d ∧ hasHolder V b d = false) :=
    fun hc => hf ⟨hc.1, hc.2.1, hasHolder_false.mp hc.2.2⟩
  simp only [walkRecord, hx, hV, walkedOn, if_neg hc]

/-- R89: a record changes the pool, the volumes and the accounts alone. -/
theorem walkRecord_frame (s : State) (w : Walk) (owners : List Nat) (x : Nat) : (walkRecord s w owners x).1 = { s with
    pool := (walkRecord s w owners x).1.pool, volumes := (walkRecord s w owners x).1.volumes,
    accounts := (walkRecord s w owners x).1.accounts } := by
  unfold walkRecord
  split
  · dsimp only
    split
    · exact walkFree_eq ..
    · rfl
  · rfl

/-- R89: so do the records of a step. -/
theorem walkRecords_frame (fuel : Nat) (r : State × Walk × List Nat) : (walkRecords fuel r).1 = { r.1 with
    pool := (walkRecords fuel r).1.pool, volumes := (walkRecords fuel r).1.volumes,
    accounts := (walkRecords fuel r).1.accounts } := by
  induction fuel generalizing r with
  | zero => rfl
  | succ fuel ih =>
    obtain ⟨s, w, owners⟩ := r
    unfold walkRecords
    split
    · rfl
    · split
      · rfl
      · next x _ =>
        refine (ih (walkRecord s w owners x)).trans ?_
        rw [walkRecord_frame]

/-! ## How far a step has come -/

/-- R90: the owners of the extents of a list, one for each extent. -/
def ownersOf (s : State) (F : List Nat) : List Nat := F.filterMap fun x => (look s.pool.extents x).map ownerOf

theorem ownersOf_append (s : State) (F G : List Nat) : ownersOf s (F ++ G) = ownersOf s F ++ ownersOf s G :=
  List.filterMap_append

/-- R83, R85 to R90: the walk `k` of the state `s` has processed the records `N`, of which it freed `F`, and has `R` left,
with the records `P` before and `A` after these: what the state, the walk and the list of owners have become. -/
structure WalkedSo (s : State) (k : Walk) (V : Volume) (P A N R F : List Nat) (u : State) (w : Walk)
    (owners : List Nat) : Prop where
  rising : Rising u.pool.extents
  sizes : u.pool.capacity = s.pool.capacity ∧ u.pool.floor = s.pool.floor ∧
    u.pool.zoneFree.length = s.pool.zoneFree.length
  free : u.pool.free = s.pool.free + F.length
  zones : ∀ z, z < s.pool.zoneFree.length → u.pool.zoneFree.getD z 0 =
    s.pool.zoneFree.getD z 0 + (F.filter fun x => zoneOf s.pool x = z).length
  freed : ∀ x ∈ F, look u.pool.extents x = none
  kept : ∀ x, x ∉ F → (look u.pool.extents x).map withoutLinks = (look s.pool.extents x).map withoutLinks
  others : ∀ v, v ≠ k.volume → look u.volumes v = look s.volumes v
  volume : ∃ W, look u.volumes k.volume = some W ∧ ChainOf u k.volume W (P ++ N.filter (· ∉ F) ++ (R ++ A)) ∧
    W = { V with held := V.held - F.length, chainHead := W.chainHead, chainTail := W.chainTail, chainCount := W.chainCount }
  accounts : u.accounts = (chargeOffAll (ownersOf s F) s).accounts
  owners : owners.Nodup ∧ ∀ n, n ∈ owners ↔ n ∈ ownersOf s F
  sub : F.Sublist N
  chosen : ∀ x o b sh d p q, x ∈ N → look s.pool.extents x = some (.retained k.volume o b sh d p q) →
    (x ∈ F ↔ walkFrees k.epoch V b d)
  walk : w = { k with
    position := w.position, finished := w.finished, visited := k.visited + N.length, freed := k.freed + F.length }
  finished : w.finished = true ↔ R = []
  position : R ≠ [] → w.position = R.head?

/-- R88: a step begins with nothing processed. -/
theorem WalkedSo.begin {s : State} {k : Walk} {V : Volume} {P M A : List Nat} (hr : Rising s.pool.extents)
    (hV : look s.volumes k.volume = some V) (hc : ChainOf s k.volume V (P ++ M ++ A)) (hf : k.finished = true ↔ M = [])
    (hp : M ≠ [] → k.position = M.head?) : WalkedSo s k V P A [] M [] s k [] where
  rising := hr
  sizes := ⟨rfl, rfl, rfl⟩
  free := rfl
  zones _ _ := rfl
  freed _ h := nomatch h
  kept _ _ := rfl
  others _ _ := rfl
  volume := ⟨V, hV, by simpa using hc, rfl⟩
  accounts := rfl
  owners := ⟨List.nodup_nil, fun _ => Iff.rfl⟩
  sub := List.Sublist.refl _
  chosen _ _ _ _ _ _ _ h := nomatch h
  walk := rfl
  finished := hf
  position := hp

/-- R87, R89: the walk after the record `x`, with `R` left. -/
theorem walkedOn_progress {k w : Walk} {N R A : List Nat} {x j : Nat} (hd : (N ++ x :: R).Nodup)
    (he : k.endMarker = (N ++ x :: R).getLast?)
    (hw : w = { k with
      position := w.position, finished := w.finished, visited := k.visited + N.length, freed := j })
    (hf : w.finished = false) :
    walkedOn w x (R ++ A).head? = { k with
      position := (walkedOn w x (R ++ A).head?).position, finished := (walkedOn w x (R ++ A).head?).finished
      visited := k.visited + (N ++ [x]).length, freed := j } ∧
    ((walkedOn w x (R ++ A).head?).finished = true ↔ R = []) ∧
    (R ≠ [] → (walkedOn w x (R ++ A).head?).position = R.head?) := by
  have hend : w.endMarker = (x :: R).getLast? := by
    rw [hw]
    exact he.trans (List.getLast?_append_cons ..)
  refine ⟨?_, ?_, fun hR => ?_⟩
  · rw [walkedOn, hw]
    simp [Nat.add_assoc]
  · rw [walkedOn, hf, hend]
    cases R with
    | nil => simp
    | cons y R =>
      have hx : x ∉ y :: R := (List.nodup_cons.mp (List.nodup_append.mp hd).2.1).1
      have hlast : (x :: y :: R).getLast? ≠ some x := by
        rw [List.getLast?_cons_cons]
        exact fun h => hx (List.mem_of_getLast? h)
      simp only [Bool.false_or, decide_eq_true_eq]
      exact ⟨fun h => absurd h hlast, fun h => nomatch h⟩
  · cases R with
    | nil => exact absurd rfl hR
    | cons y R => rfl

/-- R89: the owners of the step after one more free. -/
theorem owners_further {owners raw : List Nat} (o : Nat) (h : owners.Nodup ∧ ∀ n, n ∈ owners ↔ n ∈ raw) :
    (if o ∈ owners then owners else owners ++ [o]).Nodup ∧
    ∀ n, n ∈ (if o ∈ owners then owners else owners ++ [o]) ↔ n ∈ raw ++ [o] := by
  obtain ⟨hd, hm⟩ := h
  by_cases ho : o ∈ owners
  · rw [if_pos ho]
    refine ⟨hd, fun n => ?_⟩
    rw [hm, List.mem_append, List.mem_singleton]
    exact ⟨.inl, fun h => h.elim id fun h => h ▸ (hm o).mp ho⟩
  · rw [if_neg ho]
    refine ⟨List.nodup_append.mpr ⟨hd, List.nodup_singleton o, ?_⟩, fun n => by simp [hm]⟩
    rintro a ha b hb rfl
    exact ho (List.mem_singleton.mp hb ▸ ha)

/-- R90: one record further, its extent freed. -/
theorem WalkedSo.next_freed {s u : State} {k w : Walk} {V : Volume} {P A N R F owners : List Nat} {x o b sh d : Nat}
    {p q : Option Nat} (h : WalkedSo s k V P A N (x :: R) F u w owners) (hd : (P ++ (N ++ x :: R) ++ A).Nodup)
    (he : k.endMarker = (N ++ x :: R).getLast?)
    (hx : look s.pool.extents x = some (.retained k.volume o b sh d p q)) (hf : walkFrees k.epoch V b d) :
    WalkedSo s k V P A (N ++ [x]) R (F ++ [x])
      (walkFree k.volume x o (P ++ N.filter (· ∉ F)).getLast? (R ++ A).head? u)
      { walkedOn w x (R ++ A).head? with freed := w.freed + 1 } (if o ∈ owners then owners else owners ++ [o]) := by
  obtain ⟨W, hW, hchain, hWeq⟩ := h.volume
  have hdN : (N ++ x :: R).Nodup := (List.nodup_append.mp (List.nodup_append.mp hd).1).2.1
  have hxN : x ∉ N := fun hm => (List.nodup_append.mp hdN).2.2 x hm x (by simp) rfl
  have hlook := walkFree_look (v := k.volume) (x := x) (o := o) (pred := (P ++ N.filter (· ∉ F)).getLast?)
    (succ := (R ++ A).head?) h.rising
  have hpool := walkFree_pool k.volume x o (P ++ N.filter (· ∉ F)).getLast? (R ++ A).head? u
  have howners : ownersOf s (F ++ [x]) = ownersOf s F ++ [o] := by
    rw [ownersOf_append]
    simp [ownersOf, hx, ownerOf]
  have hfilter : (N ++ [x]).filter (· ∉ F ++ [x]) = N.filter (· ∉ F) := by
    rw [List.filter_append, List.filter_cons_of_neg (by simp), List.filter_nil, List.append_nil]
    refine List.filter_congr fun y hy => ?_
    have hyx : y ≠ x := fun heq => hxN (heq ▸ hy)
    simp [hyx]
  have hfin : w.finished = false := by
    have := h.finished
    simpa using this
  obtain ⟨hwalk, hdone, hpos⟩ := walkedOn_progress (A := A) hdN he h.walk hfin
  refine ⟨walkFree_rising h.rising, ?_, ?_, fun z hz => ?_, fun y hy => ?_, fun y hy => ?_, fun v hv => ?_,
    ⟨freedFrom (P ++ N.filter (· ∉ F)).getLast? (R ++ A).head? W, ?_, ?_, ?_⟩, ?_, ?_, h.sub.append (List.Sublist.refl _),
    fun y oy by_ sy dy py qy hy hly => ?_, ?_, hdone, hpos⟩
  · rw [hpool]
    exact ⟨h.sizes.1, h.sizes.2.1, (zoneGain_length _ _).trans h.sizes.2.2⟩
  · rw [hpool, List.length_append]
    exact congrArg (· + 1) h.free
  · rw [hpool]
    refine (zoneGain_getD _ _ _ (by rw [h.sizes.2.2]; exact hz)).trans ?_
    have hzone : zoneOf u.pool x = zoneOf s.pool x := by rw [zoneOf, zoneSize, h.sizes.1]; rfl
    rw [h.zones z hz, hzone, List.filter_append, List.length_append, Nat.add_assoc]
    congr 2
    by_cases hxz : zoneOf s.pool x = z <;> simp [hxz]
  · rw [hlook]
    split
    · rfl
    · next hyx =>
      have hyF : y ∈ F := by simpa [hyx] using hy
      rw [h.freed y hyF, Option.map_none]
  · simp only [List.mem_append, List.mem_singleton, not_or] at hy
    rw [hlook, if_neg hy.2, Option.map_map, ← h.kept y hy.1]
    congr 1
    exact funext fun e => withoutLinks_bridge ..
  · rw [walkFree_volumes, if_neg hv]
    exact h.others v hv
  · rw [walkFree_volumes, if_pos rfl, hW, Option.map_some]
  · rw [hfilter]
    refine ChainOf.removed (x := x) hchain (fun y hy => ?_) (fun _ _ _ _ _ _ => ?_) rfl rfl rfl rfl
    · rw [hlook, if_neg hy]
    · rw [hlook, if_pos rfl]
      exact fun h => nomatch h
  · rw [hWeq, List.length_append]
    rfl
  · rw [walkFree_accounts, howners, chargeOffAll, List.foldl_append]
    exact changeFigures_congr h.accounts o _
  · rw [howners]
    exact owners_further o h.owners
  · rcases List.mem_append.mp hy with hyN | hyx
    · have hne : y ≠ x := fun heq => hxN (heq ▸ hyN)
      rw [← h.chosen y oy by_ sy dy py qy hyN hly]
      simp [hne]
    · obtain rfl := List.mem_singleton.mp hyx
      rw [hx] at hly
      obtain ⟨-, -, rfl, -, rfl, -, -⟩ := Extent.retained.inj (Option.some.inj hly)
      simp [hf]
  · have hfreed : w.freed = k.freed + F.length := by rw [h.walk]
    rw [hwalk, List.length_append (as := F), hfreed]
    rfl

/-- R89: one record further, its extent kept. -/
theorem WalkedSo.next_kept {s u : State} {k w : Walk} {V : Volume} {P A N R F owners : List Nat} {x o b sh d : Nat}
    {p q : Option Nat} (h : WalkedSo s k V P A N (x :: R) F u w owners) (hd : (P ++ (N ++ x :: R) ++ A).Nodup)
    (he : k.endMarker = (N ++ x :: R).getLast?)
    (hx : look s.pool.extents x = some (.retained k.volume o b sh d p q)) (hf : ¬ walkFrees k.epoch V b d) :
    WalkedSo s k V P A (N ++ [x]) R F u (walkedOn w x (R ++ A).head?) owners := by
  obtain ⟨W, hW, hchain, hWeq⟩ := h.volume
  have hdN : (N ++ x :: R).Nodup := (List.nodup_append.mp (List.nodup_append.mp hd).1).2.1
  have hxF : x ∉ F := fun hm => (List.nodup_append.mp hdN).2.2 x (h.sub.subset hm) x (by simp) rfl
  have hfin : w.finished = false := by
    have := h.finished
    simpa using this
  obtain ⟨hwalk, hdone, hpos⟩ := walkedOn_progress (A := A) hdN he h.walk hfin
  refine { h with volume := ⟨W, hW, ?_, hWeq⟩, sub := h.sub.trans (List.sublist_append_left N [x]),
                  chosen := fun y oy by_ sy dy py qy hy hly => ?_, walk := hwalk, finished := hdone, position := hpos }
  · simpa [List.filter_append, hxF] using hchain
  · rcases List.mem_append.mp hy with hyN | hyx
    · exact h.chosen y oy by_ sy dy py qy hyN hly
    · obtain rfl := List.mem_singleton.mp hyx
      rw [hx] at hly
      obtain ⟨-, -, rfl, -, rfl, -, -⟩ := Extent.retained.inj (Option.some.inj hly)
      simp [hxF, hf]

/-- R89: one record further. -/
theorem WalkedSo.next {s u : State} {k w : Walk} {V : Volume} {P A N R F owners : List Nat} {x : Nat}
    (h : WalkedSo s k V P A N (x :: R) F u w owners) (hd : (P ++ (N ++ x :: R) ++ A).Nodup)
    (hk : k.volume ≤ 63) (hcap : ∀ y ∈ s.pool.extents.map Prod.fst, y < s.pool.capacity)
    (he : k.endMarker = (N ++ x :: R).getLast?) :
    ∃ F', WalkedSo s k V P A (N ++ [x]) R F' (walkRecord u w owners x).1 (walkRecord u w owners x).2.1
      (walkRecord u w owners x).2.2 := by
  obtain ⟨W, hW, hchain, hWeq⟩ := h.volume
  obtain ⟨o, b, sh, d, -, hl⟩ := ChainOf.record (A := P ++ N.filter (· ∉ F)) (B := R ++ A) hchain
  have hdN : (N ++ x :: R).Nodup := (List.nodup_append.mp (List.nodup_append.mp hd).1).2.1
  have hxF : x ∉ F := fun hm => (List.nodup_append.mp hdN).2.2 x (h.sub.subset hm) x (by simp) rfl
  obtain ⟨p, q, hx⟩ := map_withoutLinks_retained.mp ((h.kept x hxF).symm.trans (by rw [hl]; rfl))
  have hxcap : x < u.pool.capacity := by
    rw [h.sizes.1]
    exact hcap x (List.mem_map_of_mem (f := Prod.fst) (mem_keys_of_look hx))
  have hext : extentAt u.pool x = some _ := (if_pos hxcap).trans hl
  have hvol : w.volume = k.volume := by rw [h.walk]
  have hepoch : w.epoch = k.epoch := by rw [h.walk]
  have hvolume : volume? u w.volume = some W := by rw [hvol]; exact (if_pos hk).trans hW
  have hcat : W.catalogue = V.catalogue := by rw [hWeq]
  by_cases hf : walkFrees k.epoch V b d
  · have hfW : walkFrees w.epoch W b d := by rw [walkFrees, hepoch, hcat]; exact hf
    rw [walkRecord_frees hext hvolume hfW]
    exact ⟨F ++ [x], h.next_freed hd he hx hf⟩
  · have hfW : ¬ walkFrees w.epoch W b d := by rw [walkFrees, hepoch, hcat]; exact hf
    rw [walkRecord_keeps hext hvolume hfW]
    exact ⟨F, h.next_kept hd he hx hf⟩

/-- R89: the records of a step. -/
theorem WalkedSo.records {s : State} {k : Walk} {V : Volume} {P A : List Nat} (hk : k.volume ≤ 63)
    (hcap : ∀ y ∈ s.pool.extents.map Prod.fst, y < s.pool.capacity) (fuel : Nat) :
    ∀ {u : State} {w : Walk} {N R F owners : List Nat}, WalkedSo s k V P A N R F u w owners →
      (P ++ (N ++ R) ++ A).Nodup → (N ++ R ≠ [] → k.endMarker = (N ++ R).getLast?) →
      ∃ F', WalkedSo s k V P A (N ++ R.take fuel) (R.drop fuel) F' (walkRecords fuel (u, w, owners)).1
        (walkRecords fuel (u, w, owners)).2.1 (walkRecords fuel (u, w, owners)).2.2 := by
  induction fuel with
  | zero =>
    intro u w N R F owners h _ _
    exact ⟨F, by simpa [walkRecords] using h⟩
  | succ fuel ih =>
    intro u w N R F owners h hd he
    cases R with
    | nil =>
      refine ⟨F, ?_⟩
      rw [walkRecords, if_pos (h.finished.mpr rfl)]
      simpa using h
    | cons x R =>
      have hgo : ¬ w.finished = true := fun hf => by cases h.finished.mp hf
      have hpos : w.position = some x := h.position (by simp)
      obtain ⟨F₁, h₁⟩ := h.next hd hk hcap (he (by simp))
      obtain ⟨F₂, h₂⟩ := ih h₁ (by simpa using hd) (by simpa using he)
      refine ⟨F₂, ?_⟩
      rw [walkRecords, if_neg hgo, hpos]
      simpa using h₂

end Sys2Proof.Machine

/-! SUPPORT. The turn of a walk step (R88 to R91). -/

namespace Sys2Proof.Machine

/-! ## What a notice leaves -/

/-- R160: a head is as it was but for its notices. -/
def OnlyNoticed (H K : Head) : Prop := K = { H with notices := K.notices, missed := K.missed }

/-- R160: the management link is as it was but for its notices. -/
def OnlyNoticedMgmt (M N : Mlu) : Prop := N = { M with notices := N.notices, missed := N.missed }

theorem onlyNoticed_toldHead (n : Option Notice) {H K : Head} (h : OnlyNoticed H K) : OnlyNoticed H (toldHead n K) := by
  cases n with
  | none => exact h
  | some n =>
    unfold OnlyNoticed at *
    simp only [toldHead, noticed]
    split
    · split <;> (rw [h])
    · exact h

theorem onlyNoticedMgmt_noticed (n : Notice) {M N : Mlu} (h : OnlyNoticedMgmt M N) :
    OnlyNoticedMgmt M (noticedMgmt n N) := by
  unfold OnlyNoticedMgmt at *
  unfold noticedMgmt
  split <;> (rw [h])

theorem onlyNoticedMgmt_told (n : Option Notice) {M N : Mlu} (h : OnlyNoticedMgmt M N) :
    OnlyNoticedMgmt M (toldMgmt n N) := by
  cases n with
  | none => exact h
  | some n => exact onlyNoticedMgmt_noticed n h

/-- R32: re-evaluations change the heads and the management link by notices alone. -/
theorem reevaluateAll_onlyNoticed (owners : List Nat) {s t : State} (hh : ∀ i, OnlyNoticed (s.heads.get i) (t.heads.get i))
    (hm : OnlyNoticedMgmt s.mlu t.mlu) : (∀ i, OnlyNoticed (s.heads.get i) ((reevaluateAll owners t).heads.get i)) ∧
      OnlyNoticedMgmt s.mlu (reevaluateAll owners t).mlu := by
  induction owners generalizing t with
  | nil => exact ⟨hh, hm⟩
  | cons n owners ih =>
    obtain ⟨-, hheads, hmlu⟩ := reevaluate_outcome t n
    exact ih (t := reevaluate n t) (fun i => by rw [hheads]; exact onlyNoticed_toldHead _ (hh i))
      (by rw [hmlu]; exact onlyNoticedMgmt_told _ hm)

/-- R160: a notice for the management processor changes the management link alone. -/
theorem placeMl_eq (n : Notice) (s : State) : placeMl n s = { s with mlu := noticedMgmt n s.mlu } := by
  rw [← placeMl_mlu]
  unfold placeMl
  split <;> rfl

/-! ## The end of a step (R91) -/

/-- R88: the state in which a walk step processes its records. -/
def stepped (s : State) : State := { s with epu.lastTurn := .walkStep }

/-- R91: a volume whose record of epoch `e` has left its catalogue. -/
def withoutEpoch (e : Nat) (V : Volume) : Volume := { V with catalogue := V.catalogue.filter fun p => p.epoch ≠ e }

theorem completeWalk_eq (w : Walk) (s : State) : completeWalk w s = { s with
    volumes := adjust (withoutEpoch w.epoch) s.volumes w.volume
    epu := { s.epu with walk := none, expiryQueue := s.epu.expiryQueue.tail }
    mlu := noticedMgmt (.walkDone w.volume w.epoch w.visited w.freed) s.mlu } := by
  exact placeMl_eq ..

/-- R88 to R91: what follows the records of a step: the re-evaluations, and the completion or the walk that goes on. -/
def walkEnd (r : State × Walk × List Nat) : State :=
  if r.2.1.finished then completeWalk r.2.1 (reevaluateAll r.2.2 r.1)
  else { reevaluateAll r.2.2 r.1 with epu.walk := some r.2.1 }

theorem walkStep_eq {s : State} {k : Walk} (hq : s.epu.expiryQueue ≠ []) (hk : walkInHand s = some k) :
    walkStep s = walkEnd (walkRecords 32 (stepped s, k, [])) := by
  unfold walkStep
  rw [if_neg hq, hk]
  rfl

theorem walkEnd_unfinished {r : State × Walk × List Nat} (h : r.2.1.finished = false) :
    walkEnd r = { reevaluateAll r.2.2 r.1 with epu.walk := some r.2.1 } := by
  simp [walkEnd, h]

theorem walkEnd_finished {r : State × Walk × List Nat} (h : r.2.1.finished = true) :
    walkEnd r = completeWalk r.2.1 (reevaluateAll r.2.2 r.1) := by
  simp [walkEnd, h]

/-- R88 to R91: the fields that the end of a step may change. -/
theorem walkEnd_frame (r : State × Walk × List Nat) : walkEnd r = { r.1 with
    accounts := (reevaluateAll r.2.2 r.1).accounts, heads := (reevaluateAll r.2.2 r.1).heads, mlu := (walkEnd r).mlu,
    volumes := (walkEnd r).volumes,
    epu := { r.1.epu with walk := (walkEnd r).epu.walk, expiryQueue := (walkEnd r).epu.expiryQueue } } := by
  cases h : r.2.1.finished with
  | true =>
    rw [walkEnd_finished h, completeWalk_eq, reevaluateAll_eq]
  | false =>
    rw [walkEnd_unfinished h, reevaluateAll_eq]

theorem walkEnd_mlu (r : State × Walk × List Nat) : (walkEnd r).mlu = noticedMgmtAll
    (if r.2.1.finished then [.walkDone r.2.1.volume r.2.1.epoch r.2.1.visited r.2.1.freed] else [])
    (reevaluateAll r.2.2 r.1).mlu := by
  cases h : r.2.1.finished with
  | true => rw [walkEnd_finished h, completeWalk_eq]; rfl
  | false => rw [walkEnd_unfinished h]; rfl

theorem walkEnd_volumes (r : State × Walk × List Nat) (v : Nat) : look (walkEnd r).volumes v =
    if r.2.1.finished ∧ v = r.2.1.volume then (look r.1.volumes v).map (withoutEpoch r.2.1.epoch)
    else look r.1.volumes v := by
  have hv : (reevaluateAll r.2.2 r.1).volumes = r.1.volumes := by rw [reevaluateAll_eq]
  cases h : r.2.1.finished with
  | true =>
    rw [walkEnd_finished h, completeWalk_eq]
    simp only [look_adjust, hv, true_and]
  | false => rw [walkEnd_unfinished h]; simp [hv]

/-- R87, R91: the walk and the expiry queue after a step. -/
theorem walkEnd_epu (r : State × Walk × List Nat) :
    (r.2.1.finished = true → (walkEnd r).epu.walk = none ∧ (walkEnd r).epu.expiryQueue = r.1.epu.expiryQueue.tail) ∧
    (r.2.1.finished = false → (walkEnd r).epu.walk = some r.2.1 ∧ (walkEnd r).epu.expiryQueue = r.1.epu.expiryQueue) := by
  have he : (reevaluateAll r.2.2 r.1).epu = r.1.epu := by rw [reevaluateAll_eq]
  refine ⟨fun h => ?_, fun h => ?_⟩
  · rw [walkEnd_finished h, completeWalk_eq, he]
    exact ⟨rfl, rfl⟩
  · rw [walkEnd_unfinished h]
    exact ⟨rfl, show (reevaluateAll r.2.2 r.1).epu.expiryQueue = _ by rw [he]⟩

/-! ## The turn of a walk step -/

theorem waitsWith_of {s : State} {a : Nat} {w : Waiting} {x : Work} (h : look s.arb.waiting a = some w)
    (hw : w.work = x) : waitsWith s a x = true := by
  simp [waitsWith, h, hw]

/-- R162: what a turn granted to an agent that waits with the work named leaves, the arbiter left open. -/
theorem turn_next {s : State} {a : Nat} {w : Waiting} {x : Work} (hg : Granted s a)
    (h : look s.arb.waiting a = some w) (hw : w.work = x) (work : State → State) :
    ∃ rr t, turn a (waitsWith s a x) work s = t ∧ t = { work (granted s a rr) with arb := t.arb } := by
  rw [waitsWith_of h hw]
  obtain ⟨rr, e⟩ := turn_of hg work
  exact ⟨rr, _, e, present_eq _⟩

/-- R88: the walk that a step begins. -/
theorem walkInHand_begins {s : State} {k : Walk} {V : Volume} {v e : Nat} {rest : List (Nat × Nat)}
    (hk : walkInHand s = some k) (hV : volume? s k.volume = some V) (hw : s.epu.walk = none)
    (hq : s.epu.expiryQueue = (v, e) :: rest) : k = ⟨v, e, V.chainHead, V.chainTail, V.chainTail.isNone, 0, 0⟩ := by
  simp only [walkInHand, hw, hq, Option.some.injEq] at hk
  subst hk
  rw [show volume? s v = some V from hV]
  rfl

theorem walkInHand_goes_on {s : State} {k W : Walk} (hk : walkInHand s = some k) (hw : s.epu.walk = some W) : k = W := by
  simpa [walkInHand, hw, eq_comm] using hk

/-! ## Extents counted by their numbers -/

/-- Of a table in canonical form, the records of given distinct numbers are as many as the numbers. -/
theorem filter_keys_length {α : Type} {t : Table α} (hr : Rising t) {F : List Nat} (hF : F.Nodup)
    (hsub : ∀ x ∈ F, x ∈ t.map Prod.fst) (P : Nat → Bool) :
    ((t.filter fun x => x.1 ∈ F).filter fun x => P x.1).length = (F.filter P).length := by
  have hkeys : (t.map Prod.fst).Nodup := List.Pairwise.imp (fun h => Nat.ne_of_lt h) hr
  have hperm : ((t.map Prod.fst).filter (· ∈ F)).Perm F := by
    rw [List.perm_ext_iff_of_nodup (hkeys.filter _) hF]
    intro x
    simp only [List.mem_filter, decide_eq_true_eq]
    exact ⟨And.right, fun h => ⟨hsub x h, h⟩⟩
  have hmap : ((t.filter fun x => x.1 ∈ F).filter fun x => P x.1).map Prod.fst =
      ((t.map Prod.fst).filter (· ∈ F)).filter P := by
    rw [List.filter_map, List.filter_map]
    rfl
  rw [← List.length_map (f := Prod.fst), hmap, (hperm.filter P).length_eq]

/-- R6: the counts of a state in which exactly the extents of a list became FREE. -/
theorem freedCounted_of {s t : State} {F : List Nat} (hr : Rising s.pool.extents) (hF : F.Nodup)
    (hsub : ∀ x ∈ F, x ∈ s.pool.extents.map Prod.fst) (hfreed : ∀ x ∈ F, look t.pool.extents x = none)
    (hkept : ∀ x, x ∉ F → (look t.pool.extents x).map withoutLinks = (look s.pool.extents x).map withoutLinks)
    (hsizes : t.pool.capacity = s.pool.capacity ∧ t.pool.floor = s.pool.floor ∧
      t.pool.zoneFree.length = s.pool.zoneFree.length)
    (hfree : t.pool.free = s.pool.free + F.length)
    (hzones : ∀ z, z < s.pool.zoneFree.length → t.pool.zoneFree.getD z 0 =
      s.pool.zoneFree.getD z 0 + (F.filter fun x => zoneOf s.pool x = z).length) : FreedCounted s t := by
  have hfe : freedExtents s t = s.pool.extents.filter fun x => x.1 ∈ F := by
    refine List.filter_congr fun x hx => ?_
    by_cases hm : x.1 ∈ F
    · simp [hm, hfreed x.1 hm]
    · have hl : look s.pool.extents x.1 = some x.2 := look_of_mem hr hx
      have := hkept x.1 hm
      rw [hl] at this
      cases ht : look t.pool.extents x.1 <;> simp_all
  refine ⟨hsizes, ?_, fun z hz => ?_⟩
  · rw [hfree, hfe]
    have := filter_keys_length hr hF hsub fun _ => true
    simp only [List.filter_true] at this
    rw [this]
  · rw [hzones z hz, hfe, ← filter_keys_length hr hF hsub]

end Sys2Proof.Machine

/-! SUPPORT. What a walk step leaves (R88 to R91), from how far its records came. -/

namespace Sys2Proof.Machine

/-- R88 to R91: the fields of a state after a walk step that hold whatever the chain is. -/
theorem walkStep_frame {s t : State} {k : Walk} {rr : Bool} (hq : s.epu.expiryQueue ≠ []) (hk : walkInHand s = some k)
    (ht : t = { walkStep (granted s 6 rr) with arb := t.arb }) :
    t.journal = s.journal ∧ t.clock = s.clock ∧ t.settings = s.settings ∧ t.channels = s.channels ∧ t.rsq = s.rsq ∧
    t.dpu = s.dpu ∧ t.part = s.part ∧ t.pending = s.pending ∧ t.sent = [] ∧ t.epu.lastTurn = .walkStep ∧
    t.epu.sealQueue = s.epu.sealQueue ∧ OnlyNoticedMgmt s.mlu t.mlu ∧
    ∀ h, OnlyNoticed (s.heads.get h) (t.heads.get h) := by
  rw [walkStep_eq (s := granted s 6 rr) hq hk] at ht
  have hrec := walkRecords_frame 32 (stepped (granted s 6 rr), k, [])
  have hend := walkEnd_frame (walkRecords 32 (stepped (granted s 6 rr), k, []))
  generalize walkRecords 32 (stepped (granted s 6 rr), k, []) = r at *
  have hheads : r.1.heads = s.heads := by rw [hrec]; rfl
  have hmlu : r.1.mlu = s.mlu := by rw [hrec]; rfl
  obtain ⟨nh, nm⟩ := reevaluateAll_onlyNoticed r.2.2 (s := s) (t := r.1) (fun i => by rw [hheads]; rfl) (by rw [hmlu]; rfl)
  have hm : t.mlu = (walkEnd r).mlu := by rw [ht]
  have hh : t.heads = (reevaluateAll r.2.2 r.1).heads := by rw [ht, hend]
  rw [hm, hh, walkEnd_mlu]
  refine ⟨?_, ?_, ?_, ?_, ?_, ?_, ?_, ?_, ?_, ?_, ?_, ?_, nh⟩
  iterate 11 (rw [ht, hend, hrec]; rfl)
  split
  · exact onlyNoticedMgmt_noticed _ nm
  · exact nm

/-- R83: the records of a part of a chain are listed. -/
theorem ChainOf.listed {s : State} {v : Nat} {V : Volume} {L : List Nat} (h : ChainOf s v V L) :
    ∀ x ∈ L, x ∈ s.pool.extents.map Prod.fst := by
  intro x hx
  obtain ⟨i, hi⟩ := List.getElem?_of_mem hx
  obtain ⟨o, b, sh, d, -, hl⟩ := h.linked i x hi
  exact List.mem_map_of_mem (f := Prod.fst) (mem_keys_of_look hl)

/-- R85: what is left of a chain when some records of the part it processed have left. -/
theorem filter_freed {P M A F : List Nat} (hd : (P ++ M ++ A).Nodup) (hF : F.Sublist (M.take 32)) :
    (P ++ M ++ A).filter (· ∉ F) = P ++ (M.take 32).filter (· ∉ F) ++ (M.drop 32 ++ A) := by
  have hsplit : P ++ M ++ A = P ++ M.take 32 ++ (M.drop 32 ++ A) := by
    rw [List.append_assoc P (M.take 32), ← List.append_assoc (M.take 32), List.take_append_drop, List.append_assoc]
  have keep : ∀ l : List Nat, (∀ x ∈ l, x ∉ M.take 32) → l.filter (· ∉ F) = l := by
    intro l hl
    exact List.filter_eq_self.mpr fun x hx => decide_eq_true fun hm => hl x hx (hF.subset hm)
  rw [hsplit] at hd ⊢
  obtain ⟨hPM, -, hrest⟩ := List.nodup_append.mp hd
  rw [List.filter_append, List.filter_append]
  congr 1
  · congr 1
    exact keep P fun x hx hm => (List.nodup_append.mp hPM).2.2 x hx x hm rfl
  · exact keep _ fun x hx hm => hrest x (List.mem_append_right P hm) x hx rfl

section Outcome
variable {s t : State} {k : Walk} {V : Volume} {P M A F : List Nat} {rr : Bool} {r : State × Walk × List Nat}

/-- R83: the chain and the volume after a walk step. -/
theorem WalkedSo.volumeAfter (h : WalkedSo s k V P A (M.take 32) (M.drop 32) F r.1 r.2.1 r.2.2)
    (hd : (P ++ M ++ A).Nodup) (hpool : t.pool = r.1.pool)
    (hvol : ∀ v, look t.volumes v = if r.2.1.finished ∧ v = r.2.1.volume
      then (look r.1.volumes v).map (withoutEpoch r.2.1.epoch) else look r.1.volumes v) :
    ∃ W, look t.volumes k.volume = some W ∧ ChainOf t k.volume W ((P ++ M ++ A).filter (· ∉ F)) ∧
      W = { V with
        held := V.held - F.length, chainHead := W.chainHead, chainTail := W.chainTail, chainCount := W.chainCount,
        catalogue := if M.length ≤ 32 then V.catalogue.filter (fun z => z.epoch ≠ k.epoch) else V.catalogue } := by
  obtain ⟨U, hU, hchain, hUeq⟩ := h.volume
  have hwv : r.2.1.volume = k.volume := by rw [h.walk]
  have hwe : r.2.1.epoch = k.epoch := by rw [h.walk]
  have hfin : r.2.1.finished = true ↔ M.length ≤ 32 := by rw [h.finished, List.drop_eq_nil_iff]
  have carry : ∀ W : Volume, W.chainHead = U.chainHead → W.chainTail = U.chainTail → W.chainCount = U.chainCount →
      W.openEpoch = U.openEpoch → ChainOf t k.volume W ((P ++ M ++ A).filter (· ∉ F)) := by
    intro W h1 h2 h3 h4
    rw [filter_freed hd h.sub]
    exact hchain.congr (fun x o b sh d p q => by rw [hpool]) h1 h2 h3 h4
  have hlook := hvol k.volume
  by_cases hM : M.length ≤ 32
  · rw [if_pos ⟨hfin.mpr hM, hwv.symm⟩, hU, Option.map_some] at hlook
    refine ⟨_, hlook, carry _ rfl rfl rfl rfl, ?_⟩
    rw [if_pos hM, withoutEpoch, hwe, hUeq]
  · rw [if_neg (fun hc => hM (hfin.mp hc.1)), hU] at hlook
    refine ⟨U, hlook, carry U rfl rfl rfl rfl, ?_⟩
    rw [if_neg hM]
    exact hUeq

/-- R87, R91: the walk and the expiry queue after a walk step. -/
theorem WalkedSo.epuAfter (h : WalkedSo s k V P A (M.take 32) (M.drop 32) F r.1 r.2.1 r.2.2)
    (hk : k.finished = true ↔ M = []) (he : t.epu.walk = (walkEnd r).epu.walk ∧
      t.epu.expiryQueue = (walkEnd r).epu.expiryQueue) (hq : r.1.epu.expiryQueue = s.epu.expiryQueue) :
    (M.length ≤ 32 → t.epu.walk = none ∧ t.epu.expiryQueue = s.epu.expiryQueue.tail) ∧
    (32 < M.length → t.epu.expiryQueue = s.epu.expiryQueue ∧ t.epu.walk = some { k with
      position := M[32]?, visited := k.visited + 32, freed := k.freed + F.length }) := by
  have hfin : r.2.1.finished = true ↔ M.length ≤ 32 := by rw [h.finished, List.drop_eq_nil_iff]
  obtain ⟨hdone, hgoes⟩ := walkEnd_epu r
  rw [he.1, he.2, ← hq]
  refine ⟨fun hM => hdone (hfin.mpr hM), fun hM => ?_⟩
  have hnot : r.2.1.finished = false := Bool.eq_false_iff.mpr fun hf => by have := hfin.mp hf; omega
  have hknot : k.finished = false := by
    refine Bool.eq_false_iff.mpr fun hf => ?_
    rw [hk.mp hf] at hM
    simp at hM
  have hpos : r.2.1.position = M[32]? := by
    rw [h.position (by rw [ne_eq, List.drop_eq_nil_iff]; omega), List.head?_drop]
  obtain ⟨hw, hqueue⟩ := hgoes hnot
  refine ⟨hqueue, hw.trans (congrArg some ?_)⟩
  rw [h.walk, hnot, hpos, List.length_take_of_le hM.le, ← hknot]

end Outcome

end Sys2Proof.Machine

/-! SUPPORT. The two clauses on walk steps, assembled (R83 to R91). -/

namespace Sys2Proof.Machine

/-- R21, R31, R32, R90: figures, quota states and notices after a walk step that freed the extents `F`. -/
theorem walked_accounts {s b t : State} {F : List Nat} {r : State × Walk × List Nat}
    (hb : b.accounts = s.accounts) (hp : b.pool = s.pool) (hc : r.1.clock.now = s.clock.now)
    (hacc : r.1.accounts = (chargeOffAll (ownersOf b F) b).accounts)
    (howners : r.2.2.Nodup ∧ ∀ n, n ∈ r.2.2 ↔ n ∈ ownersOf b F) (ht : t.accounts = (reevaluateAll r.2.2 r.1).accounts) :
    (∀ n, figuresOf t n = figuresOf (chargeOffAll (ownersOf s F) s) n) ∧
    (∀ n a, look s.accounts n = some a → ∃ b, look t.accounts n = some b ∧ b.percent = a.percent ∧ b.stats = a.stats ∧
      (n ∉ ownersOf s F → b.body = a.body) ∧ (∀ g, a.body = .group g → b.body = a.body) ∧
      ∀ p, n ∈ ownersOf s F → a.body = .person p →
        b.body = .person { p with quota := nextQuota s.clock.now p (standingUse b) }) ∧
    QuotaChangesTold (· ∈ ownersOf s F) s t (noticesOf r.2.2 r.1) := by
  have hF : ownersOf b F = ownersOf s F := by rw [ownersOf, ownersOf, hp]
  rw [hF] at hacc howners
  have hacc' : r.1.accounts = (chargeOffAll (ownersOf s F) s).accounts := hacc.trans (chargeOffAll_congr hb _)
  have hbodies : SameBodies s r.1 := (chargeOffAll_sameBodies _ s).of_accounts hacc'
  obtain ⟨hlook, -, -⟩ := reevaluateAll_outcome howners.1 r.1
  have hl : ∀ m, look t.accounts m =
      if m ∈ r.2.2 then (look r.1.accounts m).map (requoted s.clock.now) else look r.1.accounts m := by
    intro m
    rw [ht, hlook, hc]
  refine ⟨fun n => ?_, fun n a ha => ?_, noticesOf_told howners.1 (fun n => (howners.2 n).symm) hbodies hc hl⟩
  · rw [requoted_figuresOf hl, figuresOf, figuresOf, hacc']
  · obtain ⟨c, b, hcl, hbl, hpercent, hstats, hother, hgroup, hperson⟩ := requoted_records hbodies hl ha
    refine ⟨b, hbl, hpercent, ?_, fun h => hother ((howners.2 n).not.mpr h), hgroup,
      fun p h => hperson p ((howners.2 n).mpr h)⟩
    have := chargeOffAll_stats (ownersOf s F) s n
    rw [← hacc', hcl, ha] at this
    exact hstats.trans (Option.some.inj this)

/-- R83, R85 to R91: what a walk step leaves, where `P`, `M` and `A` are what its walk has processed, what it has left and
what joined since. -/
theorem walkStep_leaves {s t : State} {k : Walk} {V : Volume} {P M A : List Nat} {rr : Bool}
    (hr : Rising s.pool.extents) (hq : s.epu.expiryQueue ≠ []) (hk : walkInHand s = some k)
    (hV : volume? s k.volume = some V) (ht : t = { walkStep (granted s 6 rr) with arb := t.arb })
    (hchain : ChainOf s k.volume V (P ++ M ++ A)) (hcap : ∀ x ∈ s.pool.extents.map Prod.fst, x < s.pool.capacity)
    (hfin : k.finished = true ↔ M = []) (hpos : M ≠ [] → k.position = M.head? ∧ k.endMarker = M.getLast?) :
    ∃ F : List Nat, F.Sublist (M.take 32) ∧
      (∀ x o b sh d p q, x ∈ M.take 32 → look s.pool.extents x = some (.retained k.volume o b sh d p q) →
        (x ∈ F ↔ walkFrees k.epoch V b d)) ∧
      (∀ x ∈ F, look t.pool.extents x = none) ∧
      (∀ x, x ∉ F → (look t.pool.extents x).map withoutLinks = (look s.pool.extents x).map withoutLinks) ∧
      t.pool.free = s.pool.free + F.length ∧ FreedCounted s t ∧
      ((∀ n, figuresOf t n = figuresOf (chargeOffAll (ownersOf s F) s) n) ∧
       (∀ n a, look s.accounts n = some a → ∃ b, look t.accounts n = some b ∧ b.percent = a.percent ∧ b.stats = a.stats ∧
         (n ∉ ownersOf s F → b.body = a.body) ∧ (∀ g, a.body = .group g → b.body = a.body) ∧
         ∀ p, n ∈ ownersOf s F → a.body = .person p →
           b.body = .person { p with quota := nextQuota s.clock.now p (standingUse b) }) ∧
       ∃ told, QuotaChangesTold (· ∈ ownersOf s F) s t told ∧
         (∀ h, t.heads.get h = toldHeadAll told (s.heads.get h)) ∧
         t.mlu = noticedMgmtAll (told ++ if M.length ≤ 32
           then [.walkDone k.volume k.epoch (k.visited + M.length) (k.freed + F.length)] else []) s.mlu) ∧
      (∀ v, v ≠ k.volume → look t.volumes v = look s.volumes v) ∧
      (∃ W, look t.volumes k.volume = some W ∧ ChainOf t k.volume W ((P ++ M ++ A).filter (· ∉ F)) ∧
        W = { V with
          held := V.held - F.length, chainHead := W.chainHead, chainTail := W.chainTail, chainCount := W.chainCount,
          catalogue := if M.length ≤ 32 then V.catalogue.filter (fun z => z.epoch ≠ k.epoch) else V.catalogue }) ∧
      (M.length ≤ 32 → t.epu.walk = none ∧ t.epu.expiryQueue = s.epu.expiryQueue.tail) ∧
      (32 < M.length → t.epu.expiryQueue = s.epu.expiryQueue ∧ t.epu.walk = some { k with
        position := M[32]?, visited := k.visited + 32, freed := k.freed + F.length }) := by
  rw [walkStep_eq (s := granted s 6 rr) hq hk] at ht
  have hkv : k.volume ≤ 63 ∧ look s.volumes k.volume = some V := by
    unfold volume? at hV
    split at hV
    · next h => exact ⟨h, hV⟩
    · cases hV
  obtain ⟨F, hF⟩ := WalkedSo.records (s := stepped (granted s 6 rr)) hkv.1 hcap 32
    (WalkedSo.begin (s := stepped (granted s 6 rr)) (P := P) (A := A) hr hkv.2
      (hchain.congr (fun _ _ _ _ _ _ _ => Iff.rfl) rfl rfl rfl rfl) hfin fun h => (hpos h).1)
    (by simpa using hchain.once) fun h => (hpos (by simpa using h)).2
  have hrec := walkRecords_frame 32 (stepped (granted s 6 rr), k, [])
  have hframe := walkEnd_frame (walkRecords 32 (stepped (granted s 6 rr), k, []))
  generalize walkRecords 32 (stepped (granted s 6 rr), k, []) = r at *
  rw [List.nil_append] at hF
  have hpool : t.pool = r.1.pool := by rw [ht, hframe]
  have hacc : t.accounts = (reevaluateAll r.2.2 r.1).accounts := by rw [ht, hframe]
  have hheads : t.heads = (reevaluateAll r.2.2 r.1).heads := by rw [ht, hframe]
  have hmlu : t.mlu = (walkEnd r).mlu := by rw [ht]
  have hrheads : r.1.heads = s.heads := by rw [hrec]; rfl
  have hrmlu : r.1.mlu = s.mlu := by rw [hrec]; rfl
  have hvol : ∀ v, look t.volumes v = _ := fun v =>
    (congrArg (fun u : State => look u.volumes v) ht).trans (walkEnd_volumes r v)
  have hFd : F.Nodup := (hchain.once.sublist ((List.sublist_append_right P M).trans (List.sublist_append_left _ A))).sublist
    (hF.sub.trans (List.take_sublist 32 M))
  have hlisted : ∀ x ∈ F, x ∈ s.pool.extents.map Prod.fst := fun x hx => hchain.listed x (by
    have := List.mem_of_mem_take (hF.sub.subset hx)
    simp [this])
  have hfreed : ∀ x ∈ F, look t.pool.extents x = none := by rw [hpool]; exact hF.freed
  have hkept : ∀ x, x ∉ F → (look t.pool.extents x).map withoutLinks = (look s.pool.extents x).map withoutLinks := by
    rw [hpool]; exact hF.kept
  obtain ⟨-, hnh, hnm⟩ := reevaluateAll_outcome hF.owners.1 r.1
  obtain ⟨hfig, hrecs, htold⟩ := walked_accounts (s := s) (b := stepped (granted s 6 rr)) (r := r) rfl rfl (by rw [hrec]; rfl)
    hF.accounts hF.owners hacc
  refine ⟨F, hF.sub, hF.chosen, hfreed, hkept, by rw [hpool]; exact hF.free, ?_,
    ⟨hfig, hrecs, noticesOf r.2.2 r.1, htold, fun h => ?_, ?_⟩, fun v hv => ?_, ?_, ?_⟩
  · exact freedCounted_of hr hFd hlisted hfreed hkept (by rw [hpool]; exact hF.sizes) (by rw [hpool]; exact hF.free)
      (by rw [hpool]; exact hF.zones)
  · rw [hheads, hnh, hrheads]
  · have hdone : r.2.1.finished = true ↔ M.length ≤ 32 := by rw [hF.finished, List.drop_eq_nil_iff]
    rw [hmlu, walkEnd_mlu, hnm, hrmlu, noticedMgmtAll_append]
    by_cases hM : M.length ≤ 32
    · rw [if_pos (hdone.mpr hM), if_pos hM, hF.walk, List.take_of_length_le hM]
    · rw [if_neg (fun h => hM (hdone.mp h)), if_neg hM]
  · have hwv : r.2.1.volume = k.volume := by rw [hF.walk]
    rw [hvol, if_neg (fun h => hv (h.2.trans hwv))]
    exact hF.others v hv
  · exact hF.volumeAfter hchain.once hpool hvol
  · exact hF.epuAfter hfin (by rw [ht]; exact ⟨rfl, rfl⟩) (by rw [hrec])

/-- R91: the walk of a snapshot whose volume's chain is empty completes at its first step with both counts 0. -/
theorem walkStep_emptyChain {s t : State} {v e : Nat} {rest : List (Nat × Nat)} {V : Volume} {rr : Bool}
    (hw : s.epu.walk = none) (hq : s.epu.expiryQueue = (v, e) :: rest) (hV : volume? s v = some V)
    (hh : V.chainHead = none) (htail : V.chainTail = none) (ht : t = { walkStep (granted s 6 rr) with arb := t.arb }) :
    t = { s with volumes := t.volumes,
                 epu := { s.epu with expiryQueue := rest, lastTurn := .walkStep },
                 mlu := noticedMgmt (.walkDone v e 0 0) s.mlu, arb := t.arb, sent := [] } ∧
    look t.volumes v = some { V with catalogue := V.catalogue.filter fun p => p.epoch ≠ e } := by
  have hk : walkInHand s = some ⟨v, e, none, none, true, 0, 0⟩ := by
    simp [walkInHand, hw, hq, hV, hh, htail]
  rw [walkStep_eq (s := granted s 6 rr) (by rw [show (granted s 6 rr).epu = s.epu from rfl, hq]; simp) hk] at ht
  have hrec : walkRecords 32 (stepped (granted s 6 rr), ⟨v, e, none, none, true, 0, 0⟩, []) =
      (stepped (granted s 6 rr), ⟨v, e, none, none, true, 0, 0⟩, []) := rfl
  rw [hrec, walkEnd_finished rfl, completeWalk_eq] at ht
  have hlook : look s.volumes v = some V := by
    unfold volume? at hV
    split at hV
    · exact hV
    · cases hV
  have hvol : t.volumes = adjust (withoutEpoch e) s.volumes v := by rw [ht]; rfl
  refine ⟨?_, ?_⟩
  · rw [hvol]
    refine ht.trans ?_
    simp only [stepped, granted, reevaluateAll, List.foldl_nil, hq, hw, List.tail_cons]
  · rw [hvol, look_adjust, if_pos rfl, hlook, Option.map_some, withoutEpoch]

end Sys2Proof.Machine

/-! SUPPORT. Rotation and pins (R77, R78): what a rotation check and a dropped pin leave. -/

namespace Sys2Proof.Machine

/-! ## Expiring snapshots -/

/-- R77: a snapshot that becomes EXPIRING. -/
def expiredSnapshot (p : Snapshot) : Snapshot := { p with state := .expiring, expirePending := false }

/-- R77: a volume whose snapshots of the given epochs have become EXPIRING. -/
def withExpired (es : List Nat) (V : Volume) : Volume :=
  { V with catalogue := V.catalogue.map fun p => if p.epoch ∈ es then expiredSnapshot p else p }

theorem withExpired_nil (V : Volume) : withExpired [] V = V := by simp [withExpired]

theorem withExpired_cons (e : Nat) (es : List Nat) (V : Volume) :
    withExpired es (withExpired [e] V) = withExpired (e :: es) V := by
  simp only [withExpired, List.map_map]
  congr 1
  refine List.map_congr_left fun p _ => ?_
  by_cases he : p.epoch = e <;> by_cases hes : p.epoch ∈ es <;> simp_all [expiredSnapshot]

theorem withExpired_epochs (es : List Nat) (V : Volume) :
    (withExpired es V).catalogue.map (·.epoch) = V.catalogue.map (·.epoch) := by
  rw [withExpired, List.map_map]
  refine List.map_congr_left fun p _ => ?_
  by_cases h : p.epoch ∈ es <;> simp [h, expiredSnapshot]

/-- R76: with distinct epochs, what is done at one epoch is done to one record. -/
theorem map_atEpoch {A B : List Snapshot} {p : Snapshot} (h : ((A ++ p :: B).map (·.epoch)).Nodup)
    (f : Snapshot → Snapshot) :
    (A ++ p :: B).map (fun q => if q.epoch = p.epoch then f q else q) = A ++ f p :: B := by
  rw [List.map_append, List.map_cons] at h
  have hne := (List.nodup_cons.mp (List.nodup_middle.mp h)).1
  have same : ∀ l : List Snapshot, (∀ q ∈ l, q.epoch ≠ p.epoch) →
      l.map (fun q => if q.epoch = p.epoch then f q else q) = l := fun l hl =>
    (List.map_congr_left fun q hq => if_neg (hl q hq)).trans (List.map_id l)
  rw [List.map_append, List.map_cons, if_pos rfl, same A, same B]
  · exact fun q hq he => hne (List.mem_append_right _ (he ▸ List.mem_map_of_mem hq))
  · exact fun q hq he => hne (List.mem_append_left _ (he ▸ List.mem_map_of_mem hq))

/-- R77: the epochs that at most `n` rounds of rotation take. -/
def rotationTakes (n : Nat) (V : Volume) : List Nat :=
  ((V.catalogue.filter mayRotate).take (min n (liveCount V - V.keep))).map (·.epoch)

theorem rotationTakes_of_candidate {V : Volume} {p : Snapshot} (n : Nat) (hd : EpochsDistinct V)
    (hk : V.keep < liveCount V) (hc : rotationCandidate V = some p) :
    rotationTakes (n + 1) V = p.epoch :: rotationTakes n (withExpired [p.epoch] V) := by
  obtain ⟨hp, A, B, hcat, hA⟩ := List.find?_eq_some_iff_append.mp hc
  have hmay : mayRotate p = true := by simpa [mayRotate, and_assoc] using hp
  have hlive : p.state = .live := by simp_all
  have hnone : A.filter mayRotate = [] := by
    refine List.filter_eq_nil_iff.mpr fun q hq hm => ?_
    have := hA q hq
    simp_all [mayRotate]
  have hnew : (withExpired [p.epoch] V).catalogue = A ++ expiredSnapshot p :: B := by
    have := map_atEpoch (by rw [← hcat]; exact hd) expiredSnapshot
    simpa only [withExpired, List.mem_singleton, hcat] using this
  have hrest : (withExpired [p.epoch] V).catalogue.filter mayRotate = B.filter mayRotate := by
    rw [hnew, List.filter_append, hnone, List.filter_cons_of_neg (by simp [mayRotate, expiredSnapshot])]
    rfl
  have hcount : liveCount V = liveCount (withExpired [p.epoch] V) + 1 := by
    rw [liveCount, liveCount, hnew, hcat]
    simp [List.filter_append, hlive, expiredSnapshot]
    omega
  have hmin : min (n + 1) (liveCount V - V.keep) = min n (liveCount (withExpired [p.epoch] V) - V.keep) + 1 := by omega
  rw [rotationTakes, rotationTakes, hrest, hcat, List.filter_append, hnone, List.filter_cons_of_pos hmay, hmin]
  rfl

theorem rotationTakes_of_none {V : Volume} (n : Nat) (hc : rotationCandidate V = none) : rotationTakes n V = [] := by
  have : V.catalogue.filter mayRotate = [] := by
    refine List.filter_eq_nil_iff.mpr fun q hq hm => ?_
    have := List.find?_eq_none.mp hc q hq
    simp_all [mayRotate]
  simp [rotationTakes, this]

theorem rotationTakes_of_kept {V : Volume} (n : Nat) (hk : ¬ V.keep < liveCount V) : rotationTakes n V = [] := by
  simp [rotationTakes, show liveCount V - V.keep = 0 by omega]

theorem rotationTakes_all (V : Volume) : rotationTakes V.catalogue.length V = rotationVictims V := by
  have h : liveCount V ≤ V.catalogue.length := List.length_filter_le ..
  rw [rotationTakes, rotationVictims, Nat.min_eq_right (by omega)]
  rfl

theorem rotatedVolume_eq (V : Volume) : rotatedVolume V = withExpired (rotationVictims V) V := rfl

/-! ## What rotation leaves of the state -/

/-- R76, R80: two states alike but for the expiry queue and the catalogue of one volume, which `V` gives. -/
structure CatalogueLeft (v : Nat) (s : State) (V : Volume) (queued : List Nat) (t : State) : Prop where
  others : ∀ w, w ≠ v → look t.volumes w = look s.volumes w
  volume : look t.volumes v = some V
  epu : t.epu = { s.epu with expiryQueue := s.epu.expiryQueue ++ queued.map fun e => (v, e) }

theorem CatalogueLeft.trans {v : Nat} {s t u : State} {V W : Volume} {l l' : List Nat} (h : CatalogueLeft v s V l t)
    (h' : CatalogueLeft v t W l' u) : CatalogueLeft v s W (l ++ l') u where
  others w hw := (h'.others w hw).trans (h.others w hw)
  volume := h'.volume
  epu := by rw [h'.epu, h.epu, List.map_append, List.append_assoc]

theorem look_of_volume? {s : State} {v : Nat} {V : Volume} (h : volume? s v = some V) : v ≤ 63 ∧ look s.volumes v = some V := by
  unfold volume? at h
  split at h
  · next hv => exact ⟨hv, h⟩
  · cases h

theorem modifySnapshot_look (v e : Nat) (f : Snapshot → Snapshot) (s : State) (w : Nat) :
    look (modifySnapshot v e f s).volumes w = if w = v then (look s.volumes w).map (fun V =>
      { V with catalogue := V.catalogue.map fun p => if p.epoch = e then f p else p }) else look s.volumes w :=
  modifyVolume_look ..

theorem modifySnapshot_left {s : State} {v : Nat} {V : Volume} (e : Nat) (f : Snapshot → Snapshot)
    (h : look s.volumes v = some V) : CatalogueLeft v s
      { V with catalogue := V.catalogue.map fun p => if p.epoch = e then f p else p } [] (modifySnapshot v e f s) where
  others w hw := by rw [modifySnapshot_look, if_neg hw]
  volume := by rw [modifySnapshot_look, if_pos rfl, h]; rfl
  epu := by simp [modifySnapshot]

theorem expireSnapshot_left {s : State} {v : Nat} {V : Volume} (e : Nat) (h : look s.volumes v = some V) :
    CatalogueLeft v s (withExpired [e] V) [e] (expireSnapshot v e s) := by
  have hm := modifySnapshot_left e expiredSnapshot h
  refine ⟨hm.others, ?_, ?_⟩
  · refine hm.volume.trans ?_
    simp only [withExpired, List.mem_singleton]
  · change Epu.mk _ (_ ++ [(v, e)]) _ _ = _
    have he : (modifySnapshot v e expiredSnapshot s).epu = s.epu := by simp [modifySnapshot]
    exact congrArg (fun E : Epu => { E with expiryQueue := E.expiryQueue ++ [(v, e)] }) he

/-- R77: what rotation of a volume with distinct epochs leaves. -/
theorem rotate_left {v : Nat} (hv : v ≤ 63) (n : Nat) {s : State} {V : Volume} (h : look s.volumes v = some V)
    (hd : EpochsDistinct V) : CatalogueLeft v s (withExpired (rotationTakes n V) V) (rotationTakes n V) (rotate v n s) := by
  have stop : ∀ {s : State} {V : Volume} {m : Nat}, look s.volumes v = some V → rotationTakes m V = [] →
      CatalogueLeft v s (withExpired (rotationTakes m V) V) (rotationTakes m V) s := by
    intro s V m h hn
    rw [hn, withExpired_nil]
    exact ⟨fun _ _ => rfl, h, by simp⟩
  induction n generalizing s V with
  | zero => exact stop h (by simp [rotationTakes])
  | succ n ih =>
    have hv? : volume? s v = some V := (if_pos hv).trans h
    unfold rotate
    rw [hv?]
    dsimp only
    split
    · next hk =>
      split
      · next hc => exact stop h (rotationTakes_of_none _ hc)
      · next p hc =>
        rw [rotationTakes_of_candidate n hd hk hc, ← withExpired_cons]
        have hl := expireSnapshot_left p.epoch h
        exact hl.trans (ih hl.volume (by rw [EpochsDistinct, withExpired_epochs]; exact hd))
    · next hk => exact stop h (rotationTakes_of_kept _ hk)

/-- R77: what a rotation check of a volume with distinct epochs leaves. -/
theorem rotationCheck_left {s : State} {v : Nat} {V : Volume} (hv : v ≤ 63) (h : look s.volumes v = some V)
    (hd : EpochsDistinct V) : CatalogueLeft v s (rotatedVolume V) (rotationVictims V) (rotationCheck v s) := by
  have hv? : volume? s v = some V := (if_pos hv).trans h
  rw [rotationCheck, hv?, rotatedVolume_eq, ← rotationTakes_all]
  exact rotate_left hv _ h hd

/-- R78: what a dropped pin leaves, for a volume with distinct epochs. -/
theorem dropPin_left {s : State} {v e : Nat} {V : Volume} {z : Snapshot} (hV : volume? s v = some V)
    (hz : findSnapshot V e = some z) (hd : EpochsDistinct V) :
    CatalogueLeft v s (pinDropped e z V).1 (pinDropped e z V).2 (dropPin v e s) := by
  obtain ⟨hv, hl⟩ := look_of_volume? hV
  have hlow := modifySnapshot_left e (fun p => { p with pins := p.pins - 1 }) hl
  have distinct : ∀ f : Snapshot → Snapshot, (∀ p, (f p).epoch = p.epoch) →
      EpochsDistinct { V with catalogue := V.catalogue.map fun p => if p.epoch = e then f p else p } := by
    intro f hf
    rw [EpochsDistinct, List.map_map]
    have : ((fun p : Snapshot => p.epoch) ∘ fun p => if p.epoch = e then f p else p) = fun p => p.epoch := by
      funext p
      by_cases hp : p.epoch = e <;> simp [hp, hf]
    rw [this]
    exact hd
  simp only [dropPin, hV, Option.bind_some, hz]
  unfold pinDropped
  by_cases hp : z.pins = 1
  · by_cases hx : z.expirePending = true
    · simp only [hp, hx, if_true]
      have hexp := expireSnapshot_left e hlow.volume
      have hvol : withExpired [e] { V with catalogue := V.catalogue.map fun p =>
            if p.epoch = e then { p with pins := p.pins - 1 } else p } =
          { V with catalogue := V.catalogue.map fun q =>
            if q.epoch = e then { q with pins := q.pins - 1, state := .expiring, expirePending := false } else q } := by
        simp only [withExpired, List.map_map, List.mem_singleton]
        congr 1
        refine List.map_congr_left fun p _ => ?_
        by_cases he : p.epoch = e <;> simp [he, expiredSnapshot]
      rw [hvol] at hexp
      exact (hlow.trans hexp).trans (rotationCheck_left hv hexp.volume
        (distinct (fun q => { q with pins := q.pins - 1, state := .expiring, expirePending := false }) fun _ => rfl))
    · simp only [hp, if_true, if_neg hx]
      exact hlow.trans (rotationCheck_left hv hlow.volume (distinct (fun p => { p with pins := p.pins - 1 }) fun _ => rfl))
  · simp only [if_neg hp]
    exact hlow

/-! ## What a dropped pin leaves of any state -/

/-- A volume without its catalogue. -/
def bare (V : Volume) : Volume := { V with catalogue := [] }

/-- R76, R80: two states alike but for the expiry queue and the catalogue of one volume. -/
structure CatalogueOnly (v : Nat) (s t : State) : Prop where
  others : ∀ w, w ≠ v → look t.volumes w = look s.volumes w
  volumes : ∀ w, (look t.volumes w).map bare = (look s.volumes w).map bare
  epu : t.epu = { s.epu with expiryQueue := t.epu.expiryQueue }

theorem CatalogueOnly.refl (v : Nat) (s : State) : CatalogueOnly v s s := ⟨fun _ _ => rfl, fun _ => rfl, rfl⟩

theorem CatalogueOnly.trans {v : Nat} {s t u : State} (h : CatalogueOnly v s t) (h' : CatalogueOnly v t u) :
    CatalogueOnly v s u where
  others w hw := (h'.others w hw).trans (h.others w hw)
  volumes w := (h'.volumes w).trans (h.volumes w)
  epu := by rw [h'.epu, h.epu]

theorem modifySnapshot_only (v e : Nat) (f : Snapshot → Snapshot) (s : State) :
    CatalogueOnly v s (modifySnapshot v e f s) where
  others w hw := by rw [modifySnapshot_look, if_neg hw]
  volumes w := by
    rw [modifySnapshot_look]
    split
    · rw [Option.map_map]
      rfl
    · rfl
  epu := by simp [modifySnapshot]

theorem expireSnapshot_only (v e : Nat) (s : State) : CatalogueOnly v s (expireSnapshot v e s) := by
  have hm := modifySnapshot_only v e expiredSnapshot s
  refine ⟨hm.others, hm.volumes, ?_⟩
  have he : (modifySnapshot v e expiredSnapshot s).epu = s.epu := by simp [modifySnapshot]
  exact congrArg (fun E : Epu => { E with expiryQueue := E.expiryQueue ++ [(v, e)] }) he

theorem rotate_only (v n : Nat) (s : State) : CatalogueOnly v s (rotate v n s) := by
  induction n generalizing s with
  | zero => exact .refl v s
  | succ n ih =>
    unfold rotate
    split
    · exact .refl v s
    · split
      · split
        · exact .refl v s
        · exact (expireSnapshot_only ..).trans (ih _)
      · exact .refl v s

/-- R78: a dropped pin changes the catalogue of its volume and the expiry queue alone. -/
theorem dropPin_only (v e : Nat) (s : State) : CatalogueOnly v s (dropPin v e s) := by
  have rotated : ∀ s, CatalogueOnly v s (rotationCheck v s) := by
    intro s
    unfold rotationCheck
    split
    · exact .refl v s
    · exact rotate_only ..
  unfold dropPin
  split
  · exact .refl v s
  · dsimp only
    refine (modifySnapshot_only v e (fun p => { p with pins := p.pins - 1 }) s).trans ?_
    split
    · split
      · exact (expireSnapshot_only ..).trans (rotated _)
      · exact rotated _
    · exact .refl v _

end Sys2Proof.Machine

/-! SUPPORT. Restore contexts (R98 to R110): the context served, the marks, the charge, and the end of a context. -/

namespace Sys2Proof.Machine

/-! ## The context served (R98) -/

/-- R98: with distinct numbers, the context served is the one that the pointer names, or the front. -/
theorem servedContext_iff {s : State} {before after : List Context} {c : Context}
    (h : s.rsq.contexts = before ++ c :: after) (hd : (s.rsq.contexts.map (·.id)).Nodup) :
    servedContext s = some c ↔ s.rsq.service = some c.id ∨ (before = [] ∧ ∀ d ∈ s.rsq.contexts, s.rsq.service ≠ some d.id) := by
  have hc : c ∈ s.rsq.contexts := by simp [h]
  have hfront : s.rsq.contexts.head? = some c ↔ before = [] := by
    rw [h] at hd ⊢
    cases before with
    | nil => simp
    | cons b before =>
      simp only [List.cons_append, List.head?_cons, Option.some.injEq, reduceCtorEq, iff_false]
      rintro rfl
      simp at hd
  unfold servedContext
  cases hs : s.rsq.service with
  | none => simp [hfront]
  | some i =>
    cases hf : s.rsq.contexts.find? (fun d => d.id = i) with
    | none =>
      have hne := List.find?_eq_none.mp hf
      simp only [decide_eq_true_eq] at hne
      simp only [hf, hfront, ne_eq, Option.some.injEq]
      exact ⟨fun hb => .inr ⟨hb, fun d hd he => hne d hd he.symm⟩, 
        fun h => h.elim (fun he => absurd he.symm (hne c hc)) And.left⟩
    | some d =>
      have hdi : d.id = i := by simpa using List.find?_some hf
      have hdm := List.mem_of_find?_eq_some hf
      simp only [hf, ne_eq, Option.some.injEq]
      refine ⟨fun he => .inl (he ▸ hdi.symm), fun h => h.elim (fun he => ?_) fun h => absurd hdi.symm (h.2 d hdm)⟩
      exact List.inj_on_of_nodup_map hd hdm hc (hdi.trans he)

/-- R98: with distinct numbers, the pointer moves to the context after the one served. -/
theorem serviceAfter_of {before after : List Context} {c : Context}
    (hd : ((before ++ c :: after).map (·.id)).Nodup) :
    serviceAfter c.id (before ++ c :: after) = after.head?.map (·.id) := by
  induction before with
  | nil => simp [serviceAfter]
  | cons b before ih =>
    rw [List.cons_append, List.map_cons, List.nodup_cons] at hd
    have hb : b.id ≠ c.id := fun he => hd.1 (he ▸ by simp)
    rw [List.cons_append, serviceAfter, if_neg hb, ih hd.2]

/-- R98: the state in which the step of a context begins. -/
def serving (c : Context) (s : State) (rr : Bool) : State :=
  { granted s 5 rr with rsq := { s.rsq with service := serviceAfter c.id s.rsq.contexts } }

/-- R98: what the turn of a restore step leaves. -/
theorem restoreTurn {s : State} {w : Waiting} (hg : Granted s 5) (h : look s.arb.waiting 5 = some w)
    (hw : w.work = .restoreStep) : ∃ rr t, exec .restoreStep s = .next t ∧
      (s.rsq.contexts = [] → t = { s with arb := t.arb, sent := [] }) ∧
      ∀ c, servedContext s = some c → t = { contextStep c (serving c s rr) with arb := t.arb } := by
  obtain ⟨rr, t, e, ht⟩ := turn_next hg h hw restoreStep
  refine ⟨rr, t, congrArg _ e, fun hnone => ?_, fun c hc => ?_⟩
  · have hs : servedContext (granted s 5 rr) = none := by
      simp only [servedContext, granted, hnone]
      cases s.rsq.service <;> rfl
    rw [restoreStep, hs] at ht
    exact ht
  · have hs : servedContext (granted s 5 rr) = some c := hc
    rw [restoreStep, hs] at ht
    exact ht

theorem contextStep_cancel {c : Context} (h : c.cancel = true) (s : State) : contextStep c s = cancelStep c s := by
  simp [contextStep, h]

theorem contextStep_verify {c : Context} (h : c.cancel = false) (hs : c.stage = .verify) (s : State) :
    contextStep c s = verifyStep c s := by
  simp [contextStep, h, hs]

theorem contextStep_charge {c : Context} (h : c.cancel = false) (hs : c.stage = .charge) (s : State) :
    contextStep c s = chargeStep c s := by
  simp [contextStep, h, hs]

theorem contextStep_relink {c : Context} (h : c.cancel = false) (hs : c.stage = .relink) (s : State) :
    contextStep c s = relinkStep c s := by
  simp [contextStep, h, hs]

/-! ## Marks (R99, R101, R102) -/

/-- R99, Table 6-4: the class of a place. -/
theorem classify_iff (s : State) (c : Context) (x : Nat) :
    (classify s c x = .heldLive ↔ ∃ b h, extentAt s.pool x = some (.live c.volume c.target b h) ∧ b ≤ c.epoch) ∧
    (classify s c x = .inUse ↔ ∃ o b h, extentAt s.pool x = some (.live c.volume o b h) ∧ b ≤ c.epoch ∧ o ≠ c.target) ∧
    (classify s c x = .heldRetained ↔ ∃ o b h d p q, extentAt s.pool x = some (.retained c.volume o b h d p q) ∧
      b ≤ c.epoch ∧ c.epoch < d ∧ ∀ n, c.source = some n → o = n) ∧
    (classify s c x = .notHeld ↔
      classify s c x ≠ .heldLive ∧ classify s c x ≠ .inUse ∧ classify s c x ≠ .heldRetained) := by
  have hsource : ∀ o, (c.source = none ∨ c.source = some o) ↔ ∀ n, c.source = some n → o = n := by
    intro o
    cases c.source <;> simp [eq_comm]
  cases he : extentAt s.pool x with
  | none => simp [classify, he]
  | some e =>
    cases e with
    | reserved v o i k g => simp [classify, he]
    | live v o b h =>
      by_cases hv : v = c.volume ∧ b ≤ c.epoch <;> by_cases ho : o = c.target <;> simp [classify, he, hv, ho]
    | retained v o b h d p q =>
      by_cases hv : v = c.volume ∧ b ≤ c.epoch ∧ c.epoch < d ∧ (c.source = none ∨ c.source = some o)
      · have : classify s c x = .heldRetained := by simp only [classify, he, if_pos hv]
        have hn := (hsource o).mp hv.2.2.2
        simpa [this, hv.1, hv.2.1, hv.2.2.1] using hn
      · have : classify s c x = .notHeld := by simp only [classify, he, if_neg hv]
        simp only [this, reduceCtorEq, false_iff, Option.some.injEq]
        refine ⟨by simp, by simp, ?_, by simp⟩
        rintro ⟨_, _, _, _, _, _, hex, hb, hd, hn⟩
        obtain ⟨rfl, rfl, rfl, -, rfl, -, -⟩ := Extent.retained.inj hex
        exact hv ⟨rfl, hb, hd, (hsource _).mpr hn⟩

theorem keepFirst_length (k : Nat) (places : List Place) : (keepFirst k places).length = places.length := by
  induction places generalizing k with
  | nil => cases k <;> rfl
  | cons p ps ih => cases k <;> simp [keepFirst, ih]

theorem countMark_cons (m : Mark) (p : Place) (ps : List Place) :
    countMark m (p :: ps) = (if p.mark = m then 1 else 0) + countMark m ps := by
  by_cases h : p.mark = m <;> simp [countMark, h, Nat.add_comm]

/-- R101, R102: the first `k` HELD_RETAINED marks stay, and the later ones become OVER_QUOTA. -/
theorem keepFirst_get (k : Nat) (places : List Place) (i : Nat) (p : Place) (h : places[i]? = some p) :
    (p.mark ≠ .heldRetained ∨ countMark .heldRetained (places.take i) < k → (keepFirst k places)[i]? = some p) ∧
    (p.mark = .heldRetained → k ≤ countMark .heldRetained (places.take i) →
      (keepFirst k places)[i]? = some ⟨p.extent, .overQuota⟩) := by
  induction places generalizing k i with
  | nil => simp at h
  | cons q qs ih =>
    cases i with
    | zero =>
      obtain rfl : q = p := by simpa using h
      cases k with
      | zero => by_cases hq : q.mark = .heldRetained <;> simp [keepFirst, hq, countMark]
      | succ k => simp [keepFirst, countMark]
    | succ i =>
      have hi : qs[i]? = some p := by simpa using h
      rw [List.take_succ_cons, countMark_cons]
      cases k with
      | zero =>
        obtain ⟨hkeep, hover⟩ := ih 0 i hi
        simp only [keepFirst, List.getElem?_cons_succ]
        exact ⟨fun h => hkeep (h.imp_right fun h => absurd h (by omega)), fun hm _ => hover hm (by omega)⟩
      | succ k =>
        obtain ⟨hkeep, hover⟩ := ih (if q.mark = .heldRetained then k else k + 1) i hi
        simp only [keepFirst, List.getElem?_cons_succ]
        by_cases hq : q.mark = .heldRetained
        · simp only [hq, if_true] at hkeep hover ⊢
          exact ⟨fun h => hkeep (h.imp_right fun h => by omega), fun hm hc => hover hm (by omega)⟩
        · simp only [if_neg hq] at hkeep hover ⊢
          exact ⟨fun h => hkeep (h.imp_right fun h => by omega), fun hm hc => hover hm (by omega)⟩

/-- R30: the headroom of a charge and its limiting term. -/
theorem chargeTerms_person {s : State} {n : Nat} {a : Account} {p : Person} (h : account? s n = some a)
    (hb : a.body = .person p) :
    (chargeTerms s n).1 ≤ ownHeadroom a p ∧ (∀ g, groupHeadroom s p = some g → (chargeTerms s n).1 ≤ g) ∧
    ((chargeTerms s n).1 = ownHeadroom a p ∨ groupHeadroom s p = some (chargeTerms s n).1) ∧
    ((chargeTerms s n).1 = ownHeadroom a p → (chargeTerms s n).2 = .ownLimit) ∧
    ((chargeTerms s n).1 ≠ ownHeadroom a p → (chargeTerms s n).2 = .groupLimit) := by
  have ht : chargeTerms s n = (headroomOf (ownHeadroom a p) (groupHeadroom s p) none,
      limitingTerm (ownHeadroom a p) (groupHeadroom s p) none) := by simp only [chargeTerms, h, hb]
  obtain ⟨ho, hg, -⟩ := headroomOf_le (ownHeadroom a p) (groupHeadroom s p) none
  have hat : headroomOf (ownHeadroom a p) (groupHeadroom s p) none = ownHeadroom a p ∨
      groupHeadroom s p = some (headroomOf (ownHeadroom a p) (groupHeadroom s p) none) := by
    simpa using headroomOf_attained (ownHeadroom a p) (groupHeadroom s p) none
  obtain ⟨hown, hgroup, -⟩ := limitingTerm_iff (ownHeadroom a p) (groupHeadroom s p) none
  rw [ht]
  exact ⟨ho, hg, hat, hown.mpr, fun hne => hgroup.mpr ⟨hne, hat.resolve_left hne⟩⟩

theorem chargeTerms_congr {s t : State} (h : t.accounts = s.accounts) (n : Nat) : chargeTerms t n = chargeTerms s n := by
  simp only [chargeTerms, account?, groupHeadroom, h]

/-! ## The end of a context (R106, R107, R110) -/

/-- R107: what the reply of an ended context leaves. -/
theorem answerRestore_leaves (c : Context) (outcome : Code) (s : State) :
    answerRestore c outcome s = { s with heads := (answerRestore c outcome s).heads, mlu := answeredMgmt c s.mlu,
                                         sent := s.sent ++ restoreAnswer s c outcome c.charge c.places } ∧
    ∀ h, (answerRestore c outcome s).heads.get h = answeredHead c h (s.heads.get h) := by
  cases hsub : c.submitter with
  | mgmt =>
    simp only [answerRestore, answeredMgmt, answeredHead, restoreAnswer, hsub]
    exact ⟨rfl, fun _ => rfl⟩
  | head g i =>
    simp only [answerRestore, answeredMgmt, answeredHead, restoreAnswer, hsub]
    by_cases hup : (s.heads.get g).link = .up ∧ (s.heads.get g).incarnation = i
    · simp only [answer, if_pos hup]
      refine ⟨?_, fun h => ?_⟩
      · obtain ⟨-, rfl⟩ := hup
        rfl
      · change (s.heads.set g _).get h = _
        rw [Quad.get_set]
        by_cases hg : h = g
        · rw [if_pos hg, if_pos ⟨hg.symm, hg ▸ hup⟩, hg]
        · rw [if_neg hg, if_neg (fun hc => hg hc.1.symm)]
    · simp only [answer, if_neg hup, List.append_nil]
      refine ⟨trivial, fun h => ?_⟩
      rw [if_neg]
      rintro ⟨rfl, hc⟩
      exact hup hc

/-- R106, R107: what the end of a context leaves. -/
theorem endContext_leaves (c : Context) (outcome : Code) (s : State) :
    endContext c outcome s = { s with
      volumes := (endContext c outcome s).volumes, epu := (endContext c outcome s).epu
      rsq := { s.rsq with contexts := s.rsq.contexts.filter fun d => d.id ≠ c.id }
      heads := (endContext c outcome s).heads, mlu := answeredMgmt c s.mlu
      sent := s.sent ++ restoreAnswer s c outcome c.charge c.places } ∧
    (∀ h, (endContext c outcome s).heads.get h = answeredHead c h (s.heads.get h)) ∧
    CatalogueOnly c.volume s (endContext c outcome s) ∧
    ∀ V z, volume? s c.volume = some V → findSnapshot V c.epoch = some z → EpochsDistinct V →
      CatalogueLeft c.volume s (pinDropped c.epoch z V).1 (pinDropped c.epoch z V).2 (endContext c outcome s) := by
  have hdrop := dropPin_eq (s := { s with rsq.contexts := s.rsq.contexts.filter fun d => d.id ≠ c.id }) c.volume c.epoch
  have honly := dropPin_only c.volume c.epoch { s with rsq.contexts := s.rsq.contexts.filter fun d => d.id ≠ c.id }
  have hleft : ∀ V z, volume? s c.volume = some V → findSnapshot V c.epoch = some z → EpochsDistinct V →
      CatalogueLeft c.volume s (pinDropped c.epoch z V).1 (pinDropped c.epoch z V).2
        (dropPin c.volume c.epoch { s with rsq.contexts := s.rsq.contexts.filter fun d => d.id ≠ c.id }) :=
    fun V z hV hz hd =>
      have h := dropPin_left (s := { s with rsq.contexts := s.rsq.contexts.filter fun d => d.id ≠ c.id }) hV hz hd
      ⟨h.others, h.volume, h.epu⟩
  have hend : endContext c outcome s = answerRestore c outcome
      (dropPin c.volume c.epoch { s with rsq.contexts := s.rsq.contexts.filter fun d => d.id ≠ c.id }) := rfl
  generalize dropPin c.volume c.epoch { s with rsq.contexts := s.rsq.contexts.filter fun d => d.id ≠ c.id } = u at *
  have hheads : u.heads = s.heads := by rw [hdrop]
  have hmlu : u.mlu = s.mlu := by rw [hdrop]
  have hsent : u.sent = s.sent := by rw [hdrop]
  have hrestore : restoreAnswer u c outcome c.charge c.places = restoreAnswer s c outcome c.charge c.places := by
    simp only [restoreAnswer, headReply, hheads]
  obtain ⟨hu, hh⟩ := answerRestore_leaves c outcome u
  have hvol : (endContext c outcome s).volumes = u.volumes := by rw [hend, hu]
  have hepu : (endContext c outcome s).epu = u.epu := by rw [hend, hu]
  refine ⟨?_, fun h => ?_, ⟨fun w hw => ?_, fun w => ?_, ?_⟩, fun V z hV hz hd => ?_⟩
  · rw [hvol, hepu]
    conv_lhs => rw [hend, hu, hmlu, hsent, hrestore, ← hend, hdrop]
  · rw [hend, hh, hheads]
  · rw [hvol]; exact honly.others w hw
  · rw [hvol]; exact honly.volumes w
  · rw [hepu]; exact honly.epu
  · obtain ⟨h1, h2, h3⟩ := hleft V z hV hz hd
    exact ⟨fun w hw => by rw [hvol]; exact h1 w hw, by rw [hvol]; exact h2, by rw [hepu]; exact h3⟩

end Sys2Proof.Machine

/-! SUPPORT. The restore steps VERIFY, CHARGE and the cancellation (R99 to R103, R110). -/

namespace Sys2Proof.Machine

/-- R106, R107: what a turn leaves that ends a context. -/
theorem endContext_turn {u t : State} {c : Context} {o : Code} (ht : t = { endContext c o u with arb := t.arb }) :
    t = { u with volumes := t.volumes, epu := { u.epu with expiryQueue := t.epu.expiryQueue }
                 rsq := { u.rsq with contexts := u.rsq.contexts.filter fun d => d.id ≠ c.id }
                 heads := t.heads, mlu := answeredMgmt c u.mlu, arb := t.arb
                 sent := u.sent ++ restoreAnswer u c o c.charge c.places } ∧
    (∀ h, t.heads.get h = answeredHead c h (u.heads.get h)) ∧ CatalogueOnly c.volume u t ∧
    ∀ V z, volume? u c.volume = some V → findSnapshot V c.epoch = some z → EpochsDistinct V →
      CatalogueLeft c.volume u (pinDropped c.epoch z V).1 (pinDropped c.epoch z V).2 t := by
  obtain ⟨hframe, hheads, honly, hleft⟩ := endContext_leaves c o u
  have hv : t.volumes = (endContext c o u).volumes := by rw [ht]
  have hh : t.heads = (endContext c o u).heads := by rw [ht]
  have he : t.epu = (endContext c o u).epu := by rw [ht]
  refine ⟨?_, fun h => by rw [hh]; exact hheads h, ⟨fun w hw => by rw [hv]; exact honly.others w hw,
    fun w => by rw [hv]; exact honly.volumes w, by rw [he]; exact honly.epu⟩, fun V z hV hz hd => ?_⟩
  · have hepu : { u.epu with expiryQueue := t.epu.expiryQueue } = t.epu := by rw [he]; exact honly.epu.symm
    rw [hepu, hv, hh, he]
    exact ht.trans (congrArg (fun x : State => { x with arb := t.arb }) hframe)
  · obtain ⟨h1, h2, h3⟩ := hleft V z hV hz hd
    exact ⟨fun w hw => by rw [hv]; exact h1 w hw, by rw [hv]; exact h2, by rw [he]; exact h3⟩

/-- R99: what the turn of a VERIFY step leaves. -/
theorem verify_leaves {s t : State} {c : Context} {rr : Bool} (hc : c.cancel = false) (hs : c.stage = .verify)
    (ht : t = { contextStep c (serving c s rr) with arb := t.arb }) :
    t = { s with rsq := t.rsq, arb := t.arb, sent := [] } ∧
    t.rsq.contexts = s.rsq.contexts.map fun d => if d.id = c.id then { c with
      places := c.places.take c.cursor ++
        ((c.places.drop c.cursor).take 64).map (fun p => ⟨p.extent, classify s c p.extent⟩) ++
        c.places.drop (c.cursor + 64)
      cursor := min (c.cursor + 64) c.places.length
      stage := if c.places.length ≤ c.cursor + 64 then .charge else .verify } else d := by
  rw [contextStep_verify hc hs] at ht
  have hrsq : t.rsq = (verifyStep c (serving c s rr)).rsq := by rw [ht]
  refine ⟨by rw [hrsq]; exact ht, ?_⟩
  have hlast : (c.places.length ≤ c.cursor + 64) = (min (c.cursor + 64) c.places.length = c.places.length) :=
    propext ⟨Nat.min_eq_right, fun h => h ▸ Nat.min_le_left ..⟩
  rw [hrsq]
  simp only [hlast]
  rfl

/-- R101: the charge of a context as its reply gives it. -/
def chargeResult (s : State) (c : Context) : ChargeResult :=
  ⟨(chargeTerms s c.target).1,
    if (chargeTerms s c.target).1 < countMark .heldRetained c.places then some (chargeTerms s c.target).2 else none⟩

/-- R101, R102: a context after its charge, with the first `a` HELD_RETAINED places kept. -/
def charged (s : State) (c : Context) (a : Nat) : Context :=
  { c with places := keepFirst a c.places, charge := some (chargeResult s c) }

/-- R101: an ALL_OR_NONE context whose places do not fit ends with the limiting term's code. -/
theorem chargeStep_refused {s : State} {c : Context} (hm : c.mode = .allOrNone)
    (h : (chargeTerms s c.target).1 < countMark .heldRetained c.places) :
    chargeStep c s = endContext (charged s c 0) (chargeTerms s c.target).2 s := by
  have ha : admittedCount c.mode (countMark .heldRetained c.places) (chargeTerms s c.target).1 = none := by
    rw [hm, admittedCount, if_pos h]
  simp only [chargeStep, ha]
  rfl

/-- R101, R102: the count that a charge admits. -/
def admits (s : State) (c : Context) : Nat :=
  if c.mode = .allOrNone then countMark .heldRetained c.places
  else min (countMark .heldRetained c.places) (chargeTerms s c.target).1

/-- R101 to R103: a charge that is not refused. -/
theorem chargeStep_admitted {s : State} {c : Context}
    (h : c.mode = .allOrNone → countMark .heldRetained c.places ≤ (chargeTerms s c.target).1) :
    chargeStep c s = if admits s c = 0 then endContext (charged s c (admits s c)) .ok s
      else takeHold (charged s c (admits s c)) (admits s c) s := by
  have ha : admittedCount c.mode (countMark .heldRetained c.places) (chargeTerms s c.target).1 = some (admits s c) := by
    cases hm : c.mode with
    | allOrNone => rw [admittedCount, if_neg (by have := h hm; omega), admits, if_pos hm]
    | asFits => rw [admittedCount, admits, if_neg (by simp [hm])]
  simp only [chargeStep, ha]
  rfl

/-- R101 to R103, R106, R107: what the turn of a CHARGE step leaves. -/
theorem charge_leaves {s t : State} {c : Context} {rr : Bool} (hc : c.cancel = false) (hs : c.stage = .charge)
    (ht : t = { contextStep c (serving c s rr) with arb := t.arb }) :
    let r := countMark .heldRetained c.places
    let headroom := (chargeTerms s c.target).1
    let a := if c.mode = .allOrNone then r else min r headroom
    let result : ChargeResult := ⟨headroom, if headroom < r then some (chargeTerms s c.target).2 else none⟩
    let ended := t.rsq.contexts = s.rsq.contexts.filter (fun d => d.id ≠ c.id) ∧ t.accounts = s.accounts ∧
      (∀ h, t.heads.get h = answeredHead c h (s.heads.get h)) ∧ t.mlu = answeredMgmt c s.mlu ∧
      (∀ v, v ≠ c.volume → look t.volumes v = look s.volumes v) ∧
      ∀ V z, volume? s c.volume = some V → findSnapshot V c.epoch = some z → EpochsDistinct V →
        look t.volumes c.volume = some (pinDropped c.epoch z V).1 ∧
        t.epu.expiryQueue = s.epu.expiryQueue ++ (pinDropped c.epoch z V).2.map fun n => (c.volume, n)
    t = { s with accounts := t.accounts, volumes := t.volumes, heads := t.heads, mlu := t.mlu,
                 epu.expiryQueue := t.epu.expiryQueue, rsq := t.rsq, arb := t.arb, sent := t.sent } ∧
    (c.mode = .allOrNone → headroom < r →
      ended ∧ t.sent = restoreAnswer s c (chargeTerms s c.target).2 (some result) (keepFirst 0 c.places)) ∧
    (a = 0 → (c.mode = .allOrNone → r ≤ headroom) →
      ended ∧ t.sent = restoreAnswer s c .ok (some result) (keepFirst 0 c.places)) ∧
    (0 < a → (c.mode = .allOrNone → r ≤ headroom) →
      t.rsq.contexts = s.rsq.contexts.map (fun d => if d.id = c.id then { c with
        places := keepFirst a c.places, charge := some result
        admitted := a, hold := a, cursor := 0, stage := .relink } else d) ∧
      t = { s with accounts := (changeFigures c.target (fun f => { f with hold := f.hold + a }) s).accounts,
                   rsq := t.rsq, arb := t.arb, sent := [] }) := by
  intro r headroom a result ended
  rw [contextStep_charge hc hs] at ht
  have hterms : chargeTerms (serving c s rr) c.target = chargeTerms s c.target := chargeTerms_congr rfl _
  have hcharged : charged (serving c s rr) c = charged s c := by
    funext k
    rw [charged, chargeResult, hterms]
    rfl
  have hadmits : admits (serving c s rr) c = a := by rw [admits, hterms]
  have ends : ∀ o, t = { endContext (charged s c 0) o (serving c s rr) with arb := t.arb } →
      t = { s with accounts := t.accounts, volumes := t.volumes, heads := t.heads, mlu := t.mlu,
                   epu.expiryQueue := t.epu.expiryQueue, rsq := t.rsq, arb := t.arb, sent := t.sent } ∧
      ended ∧ t.sent = restoreAnswer s c o (some result) (keepFirst 0 c.places) := by
    intro o ho
    obtain ⟨he, hh, honly, hleft⟩ := endContext_turn ho
    refine ⟨?_, ⟨?_, ?_, hh, ?_, honly.others, fun V z hV hz hd => ?_⟩, ?_⟩
    · rw [he]; rfl
    · rw [he]; rfl
    · rw [he]; rfl
    · rw [he]; rfl
    · have hl := hleft V z hV hz hd
      exact ⟨hl.volume, congrArg Epu.expiryQueue hl.epu⟩
    · rw [he]; rfl
  have refused : c.mode = .allOrNone → headroom < r →
      t = { endContext (charged s c 0) (chargeTerms s c.target).2 (serving c s rr) with arb := t.arb } := by
    intro hm hr
    rw [chargeStep_refused hm (by rw [hterms]; exact hr), hcharged, hterms] at ht
    exact ht
  have admitted : (c.mode = .allOrNone → r ≤ headroom) →
      t = { if a = 0 then endContext (charged s c a) .ok (serving c s rr)
            else takeHold (charged s c a) a (serving c s rr) with arb := t.arb } := by
    intro hm
    rw [chargeStep_admitted (fun h => by rw [hterms]; exact hm h), hcharged, hadmits] at ht
    exact ht
  have ended_ok : a = 0 → (c.mode = .allOrNone → r ≤ headroom) →
      t = { endContext (charged s c 0) .ok (serving c s rr) with arb := t.arb } := by
    intro ha hm
    have h := admitted hm
    rw [if_pos ha, ha] at h
    exact h
  have held : 0 < a → (c.mode = .allOrNone → r ≤ headroom) →
      t = { takeHold (charged s c a) a (serving c s rr) with arb := t.arb } := by
    intro ha hm
    have h := admitted hm
    rw [if_neg (by omega)] at h
    exact h
  have holds : 0 < a → (c.mode = .allOrNone → r ≤ headroom) →
      t.rsq.contexts = s.rsq.contexts.map (fun d => if d.id = c.id then { c with
        places := keepFirst a c.places, charge := some result
        admitted := a, hold := a, cursor := 0, stage := .relink } else d) ∧
      t = { s with accounts := (changeFigures c.target (fun f => { f with hold := f.hold + a }) s).accounts,
                   rsq := t.rsq, arb := t.arb, sent := [] } := by
    intro ha hm
    have h := held ha hm
    have hframe := changeFigures_eq (s := serving c s rr) c.target (fun f => { f with hold := f.hold + a })
    have hacc := changeFigures_congr (s := s) (t := serving c s rr) rfl c.target (fun f => { f with hold := f.hold + a })
    rw [hacc] at hframe
    have hu : takeHold (charged s c a) a (serving c s rr) = storeContext _ _ := rfl
    rw [hu, show (charged s c a).target = c.target from rfl, hframe] at h
    constructor
    · rw [h]; rfl
    · have hr : t.rsq = _ := congrArg State.rsq h
      rw [hr]
      exact h
  refine ⟨?_, fun hm hr => (ends _ (refused hm hr)).2, fun ha hm => (ends _ (ended_ok ha hm)).2, holds⟩
  by_cases hm : c.mode = .allOrNone → r ≤ headroom
  · rcases Nat.eq_zero_or_pos a with ha | ha
    · exact (ends _ (ended_ok ha hm)).1
    · have h := (holds ha hm).2
      rw [h]
  · obtain ⟨hmode, hr⟩ := Classical.not_imp.mp hm
    exact (ends _ (refused hmode (by omega))).1

/-- R110: what the turn of a cancelled context leaves. -/
theorem cancel_leaves {s t : State} {c : Context} {rr : Bool} (hc : c.cancel = true)
    (ht : t = { contextStep c (serving c s rr) with arb := t.arb }) :
    t.rsq.contexts = s.rsq.contexts.filter (fun d => d.id ≠ c.id) ∧
    t.accounts = (changeFigures c.target (fun f => { f with hold := f.hold - c.hold }) s).accounts ∧
    (∀ V z, volume? s c.volume = some V → findSnapshot V c.epoch = some z → EpochsDistinct V →
      look t.volumes c.volume = some (pinDropped c.epoch z V).1 ∧
      t.epu.expiryQueue = s.epu.expiryQueue ++ (pinDropped c.epoch z V).2.map fun n => (c.volume, n)) ∧
    t = { s with accounts := t.accounts, volumes := t.volumes, heads := t.heads, mlu := t.mlu,
                 epu.expiryQueue := t.epu.expiryQueue, rsq := t.rsq, arb := t.arb, sent := t.sent } ∧
    (∀ h, t.heads.get h = answeredHead c h (s.heads.get h)) ∧ t.mlu = answeredMgmt c s.mlu ∧
    (∀ v, v ≠ c.volume → look t.volumes v = look s.volumes v) ∧
    t.sent = restoreAnswer s c .cancelled c.charge c.places := by
  rw [contextStep_cancel hc] at ht
  have hframe := changeFigures_eq (s := serving c s rr) c.target (fun f => { f with hold := f.hold - c.hold })
  have hacc := changeFigures_congr (s := s) (t := serving c s rr) rfl c.target (fun f => { f with hold := f.hold - c.hold })
  rw [hacc] at hframe
  have hu : t = { endContext { c with hold := 0 } .cancelled (releaseHold c.target c.hold (serving c s rr)) with
    arb := t.arb } := ht
  rw [releaseHold, hframe] at hu
  obtain ⟨he, hh, honly, hleft⟩ := endContext_turn hu
  refine ⟨?_, ?_, fun V z hV hz hd => ?_, ?_, hh, ?_, honly.others, ?_⟩
  · rw [he]; rfl
  · rw [he]
  · have hl := hleft V z hV hz hd
    exact ⟨hl.volume, congrArg Epu.expiryQueue hl.epu⟩
  · rw [he]; rfl
  · rw [he]; rfl
  · rw [he]; rfl

end Sys2Proof.Machine

/-! SUPPORT. The places of a RELINK step (R104, R105): how the step takes them, and how far it has come. -/

namespace Sys2Proof.Machine

/-! ## The places that a step takes (R104) -/

/-- R104: one place of a step: settled when it is marked HELD_RETAINED, else passed over. -/
def relinkOne (c : Context) (r : Relink) (p : Place) : Relink :=
  if p.mark = .heldRetained then relinkPlace c r p.extent else { r with done := r.done ++ [p] }

theorem relinkPlaces_nil (c : Context) (n : Nat) (r : Relink) : relinkPlaces c n r [] = (r, []) := by
  cases n <;> rfl

theorem relinkPlaces_zero (c : Context) (r : Relink) (ps : List Place) : relinkPlaces c 0 r ps = (r, ps) := by
  cases ps <;> rfl

theorem relinkPlaces_held {c : Context} {p : Place} (h : p.mark = .heldRetained) (n : Nat) (r : Relink)
    (ps : List Place) : relinkPlaces c (n + 1) r (p :: ps) = relinkPlaces c n (relinkOne c r p) ps := by
  rw [relinkPlaces, relinkOne, if_pos h, if_pos h]

theorem relinkPlaces_passed {c : Context} {p : Place} (h : p.mark ≠ .heldRetained) (n : Nat) (r : Relink)
    (ps : List Place) : relinkPlaces c (n + 1) r (p :: ps) = relinkPlaces c (n + 1) (relinkOne c r p) ps := by
  rw [relinkPlaces, relinkOne, if_neg h, if_neg h]

/-- R104: a step takes some first part of the places. -/
theorem relinkPlaces_splits (c : Context) (n : Nat) (r : Relink) (ps : List Place) :
    ∃ done rest, ps = done ++ rest ∧ relinkPlaces c n r ps = (done.foldl (relinkOne c) r, rest) := by
  induction ps generalizing n r with
  | nil => exact ⟨[], [], rfl, relinkPlaces_nil ..⟩
  | cons p ps ih =>
    cases n with
    | zero => exact ⟨[], p :: ps, rfl, relinkPlaces_zero ..⟩
    | succ n =>
      by_cases h : p.mark = .heldRetained
      · obtain ⟨done, rest, hps, he⟩ := ih n (relinkOne c r p)
        exact ⟨p :: done, rest, by rw [hps]; rfl, by rw [relinkPlaces_held h, he]; rfl⟩
      · obtain ⟨done, rest, hps, he⟩ := ih (n + 1) (relinkOne c r p)
        exact ⟨p :: done, rest, by rw [hps]; rfl, by rw [relinkPlaces_passed h, he]; rfl⟩

/-- R104: a step takes the places up to its last HELD_RETAINED one, or all. -/
theorem relinkPlaces_eq (c : Context) {n : Nat} {done rest : List Place} (r : Relink)
    (hn : countMark .heldRetained done ≤ n)
    (hlast : rest ≠ [] ∨ countMark .heldRetained done = n →
      countMark .heldRetained done = n ∧ (done = [] ∨ done.getLast?.map (·.mark) = some .heldRetained)) :
    relinkPlaces c n r (done ++ rest) = (done.foldl (relinkOne c) r, rest) := by
  induction done generalizing n r with
  | nil =>
    rcases rest.eq_nil_or_concat' with rfl | ⟨l, p, rfl⟩
    · exact relinkPlaces_nil ..
    · obtain rfl : 0 = n := (hlast (.inl (by simp))).1
      exact relinkPlaces_zero ..
  | cons p ds ih =>
    have tail : (p :: ds).getLast?.map (·.mark) = some .heldRetained →
        ds = [] ∨ ds.getLast?.map (·.mark) = some .heldRetained := by
      cases ds with
      | nil => exact fun _ => .inl rfl
      | cons d ds => exact fun h => .inr (by rwa [List.getLast?_cons_cons] at h)
    rw [countMark_cons] at hn hlast
    by_cases h : p.mark = .heldRetained
    · rw [if_pos h] at hn hlast
      obtain ⟨n, rfl⟩ : ∃ m, n = m + 1 := ⟨n - 1, by omega⟩
      rw [List.cons_append, relinkPlaces_held h, List.foldl_cons]
      refine ih _ (by omega) fun hc => ?_
      obtain ⟨hcount, hl⟩ := hlast (hc.imp_right (by omega))
      exact ⟨by omega, tail (hl.resolve_left (by simp))⟩
    · rw [if_neg h, Nat.zero_add] at hn hlast
      cases n with
      | zero =>
        obtain ⟨hcount, hl⟩ := hlast (.inr (by omega))
        have hm := hl.resolve_left (by simp)
        obtain ⟨q, hq, hqm⟩ := Option.map_eq_some_iff.mp hm
        have hq' : q ∈ ds := by
          rcases List.mem_cons.mp (List.mem_of_getLast? hq) with rfl | hq'
          · exact absurd hqm h
          · exact hq'
        have : 0 < countMark .heldRetained ds := List.length_pos_of_mem (List.mem_filter.mpr ⟨hq', by simpa using hqm⟩)
        omega
      | succ n =>
        rw [List.cons_append, relinkPlaces_passed h, List.foldl_cons]
        refine ih _ hn fun hc => ?_
        obtain ⟨hcount, hl⟩ := hlast hc
        exact ⟨hcount, tail (hl.resolve_left (by simp))⟩

/-! ## What the places come to, place by place (R104, R105) -/

/-- R105: what a step relinks of the places it takes. -/
def madeOf (s : State) (places : List Place) : List Relinked := (List.range places.length).filterMap (relinkedAt s places)

/-- R104: the places after a step. -/
def settledOf (s : State) (places : List Place) : List Place := (List.range places.length).filterMap (settledAt s places)

/-- R105: the journal changes of a step. -/
def birthsOf (s : State) (places : List Place) : List (Option LifeChange) :=
  (List.range places.length).filterMap (birthAt s places)

/-- What is said place by place grows at its end, when a place is judged by those before it. -/
theorem filterMap_range_concat {α : Type} (F : List Place → Nat → Option α) (ps : List Place) (p : Place)
    (h : ∀ i, i < ps.length → F (ps ++ [p]) i = F ps i) :
    (List.range (ps ++ [p]).length).filterMap (F (ps ++ [p])) =
      (List.range ps.length).filterMap (F ps) ++ (F (ps ++ [p]) ps.length).toList := by
  rw [List.length_append, List.length_singleton, List.range_succ, List.filterMap_append]
  have hlast : [ps.length].filterMap (F (ps ++ [p])) = (F (ps ++ [p]) ps.length).toList := by
    cases hf : F (ps ++ [p]) ps.length <;> simp [hf]
  rw [List.filterMap_congr fun i hi => h i (List.mem_range.mp hi), hlast]

theorem relinkedAt_append (s : State) (ps : List Place) (p : Place) (i : Nat) (h : i < ps.length) :
    relinkedAt s (ps ++ [p]) i = relinkedAt s ps i := by
  rw [relinkedAt, relinkedAt, List.getElem?_append_left h, List.take_append_of_le_length h.le]

/-- R104: what a step relinks at one place more. -/
def relinkedNext (s : State) (ps : List Place) (p : Place) : Option Relinked := relinkedAt s (ps ++ [p]) ps.length

theorem madeOf_concat (s : State) (ps : List Place) (p : Place) :
    madeOf s (ps ++ [p]) = madeOf s ps ++ (relinkedNext s ps p).toList :=
  filterMap_range_concat (relinkedAt s) ps p (relinkedAt_append s ps p)

theorem settledOf_concat (s : State) (ps : List Place) (p : Place) : settledOf s (ps ++ [p]) = settledOf s ps ++
    [if p.mark = .heldRetained then ⟨p.extent, if (relinkedNext s ps p).isSome then .relinked else .alreadyLive⟩ else p] := by
  refine (filterMap_range_concat (settledAt s) ps p fun i hi => ?_).trans ?_
  · rw [settledAt, settledAt, List.getElem?_append_left hi, relinkedAt_append s ps p i hi]
  · congr 1
    simp only [settledAt, relinkedNext, List.getElem?_concat_length]
    rfl

theorem birthsOf_concat (s : State) (ps : List Place) (p : Place) : birthsOf s (ps ++ [p]) = birthsOf s ps ++
    if p.mark = .heldRetained then
      [(relinkedNext s ps p).map fun g => ⟨.birth, g.volume, g.extent, openEpoch s g.volume, none⟩] else [] := by
  refine (filterMap_range_concat (birthAt s) ps p fun i hi => ?_).trans ?_
  · rw [birthAt, birthAt, List.getElem?_append_left hi, relinkedAt_append s ps p i hi]
  · congr 1
    by_cases h : p.mark = .heldRetained <;> simp [birthAt, relinkedNext, h]

theorem countMark_concat (m : Mark) (ps : List Place) (p : Place) :
    countMark m (ps ++ [p]) = countMark m ps + if p.mark = m then 1 else 0 := by
  by_cases h : p.mark = m <;> simp [countMark, h]

theorem relinkedNext_passed {s : State} {ps : List Place} {p : Place} (h : p.mark ≠ .heldRetained) :
    relinkedNext s ps p = none := by
  simp [relinkedNext, relinkedAt, h]

theorem relinkedNext_again {s : State} {ps : List Place} {p : Place} (h : ⟨p.extent, .heldRetained⟩ ∈ ps) :
    relinkedNext s ps p = none := by
  simp [relinkedNext, relinkedAt, h]

theorem relinkedNext_retained {s : State} {ps : List Place} {p : Place} {v o b sh d : Nat} {q q' : Option Nat}
    (hm : p.mark = .heldRetained) (hn : ⟨p.extent, .heldRetained⟩ ∉ ps)
    (he : extentAt s.pool p.extent = some (.retained v o b sh d q q')) :
    relinkedNext s ps p = some ⟨p.extent, v, o, b⟩ := by
  simp [relinkedNext, relinkedAt, hm, hn, he]

theorem relinkedNext_other {s : State} {ps : List Place} {p : Place}
    (he : ∀ v o b sh d q q', extentAt s.pool p.extent ≠ some (.retained v o b sh d q q')) :
    relinkedNext s ps p = none := by
  simp only [relinkedNext, relinkedAt, List.getElem?_concat_length]
  split
  · rfl
  · rfl

/-- R104, R105: the extents that a step relinks are those that are RETAINED and marked HELD_RETAINED. -/
theorem mem_madeOf {s : State} {ps : List Place} {x : Nat} : (∃ g ∈ madeOf s ps, g.extent = x) ↔
    ⟨x, .heldRetained⟩ ∈ ps ∧ ∃ v o b sh d q q', extentAt s.pool x = some (.retained v o b sh d q q') := by
  induction ps using List.reverseRecOn with
  | nil => simp [madeOf]
  | append_singleton ps p ih =>
    rw [madeOf_concat]
    constructor
    · rintro ⟨g, hg, hx⟩
      rcases List.mem_append.mp hg with hg | hg
      · obtain ⟨hm, hr⟩ := ih.mp ⟨g, hg, hx⟩
        exact ⟨List.mem_append_left _ hm, hr⟩
      · by_cases hr : ∃ v o b sh d q q', extentAt s.pool p.extent = some (.retained v o b sh d q q')
        · obtain ⟨v, o, b, sh, d, q, q', he⟩ := hr
          by_cases hm : p.mark = .heldRetained
          · by_cases ha : ⟨p.extent, .heldRetained⟩ ∈ ps
            · rw [relinkedNext_again ha] at hg
              simp at hg
            · rw [relinkedNext_retained hm ha he] at hg
              obtain rfl : g = _ := by simpa using hg
              obtain rfl : p.extent = x := hx
              refine ⟨List.mem_append_right _ ?_, v, o, b, sh, d, q, q', he⟩
              rw [← hm]
              exact List.mem_singleton.mpr rfl
          · rw [relinkedNext_passed hm] at hg
            simp at hg
        · rw [relinkedNext_other (by simpa using hr)] at hg
          simp at hg
    · rintro ⟨hm, v, o, b, sh, d, q, q', he⟩
      by_cases ha : ⟨x, .heldRetained⟩ ∈ ps
      · obtain ⟨g, hg, hx⟩ := ih.mpr ⟨ha, v, o, b, sh, d, q, q', he⟩
        exact ⟨g, List.mem_append_left _ hg, hx⟩
      · obtain rfl : ⟨x, .heldRetained⟩ = p := by simpa [ha] using hm
        refine ⟨⟨x, v, o, b⟩, List.mem_append_right _ ?_, rfl⟩
        rw [relinkedNext_retained rfl ha he]
        exact List.mem_singleton.mpr rfl

end Sys2Proof.Machine

/-! SUPPORT. How far a RELINK step has come (R104, R105). -/

namespace Sys2Proof.Machine

/-! ## One extent relinked (R105) -/

/-- R85: a volume without its chain. -/
def unlinked (V : Volume) : Volume := { V with chainHead := none, chainTail := none, chainCount := 0 }

/-- R64: a volume is looked up alike where only chains differ. -/
theorem openEpoch_unlinked {s t : State} (h : ∀ v, (look t.volumes v).map unlinked = (look s.volumes v).map unlinked)
    (v : Nat) : openEpoch t v = openEpoch s v := by
  have hv := congrArg (Option.map Volume.openEpoch) (h v)
  rw [Option.map_map, Option.map_map] at hv
  unfold openEpoch volume?
  split
  · exact congrArg (·.getD 1) hv
  · rfl

theorem bridge_live (pred succ : Option Nat) (y v o b h : Nat) :
    bridge pred succ y (.live v o b h) = .live v o b h := by
  unfold bridge
  split <;> split <;> rfl

section Extent
variable (x v owner birth target e : Nat) (pred succ : Option Nat) (s : State)

theorem relinkExtent_pool : (relinkExtent x v owner birth target e pred succ s).pool = { s.pool with
    extents := put (unlinkChain v pred succ s).pool.extents x (.live v target birth e) } := by
  have h : (relinkExtent x v owner birth target e pred succ s).pool =
      { (unlinkChain v pred succ s).pool with
        extents := put (unlinkChain v pred succ s).pool.extents x (.live v target birth e) } := by
    simp [relinkExtent, setExtent]
  rw [h]
  conv_lhs => rw [unlinkChain_pool]

/-- R105: a relinked extent is LIVE, and the records beside it in the chain are linked. -/
theorem relinkExtent_look (y : Nat) : look (relinkExtent x v owner birth target e pred succ s).pool.extents y =
    if y = x then some (.live v target birth e) else (look s.pool.extents y).map (bridge pred succ y) := by
  rw [relinkExtent_pool, look_put, unlinkChain_look]

theorem relinkExtent_volumes (w : Nat) : look (relinkExtent x v owner birth target e pred succ s).volumes w =
    if w = v then (look s.volumes w).map (unchained pred succ) else look s.volumes w := by
  have h : (relinkExtent x v owner birth target e pred succ s).volumes = (unlinkChain v pred succ s).volumes := by
    simp [relinkExtent, setExtent]
  rw [h, unlinkChain_volumes]

theorem relinkExtent_walk : (relinkExtent x v owner birth target e pred succ s).epu.walk =
    s.epu.walk.map (walkAfterRemoval v x pred succ) := by
  simp [relinkExtent, setExtent]

theorem relinkExtent_eq : relinkExtent x v owner birth target e pred succ s = { s with
    pool := (relinkExtent x v owner birth target e pred succ s).pool
    volumes := (relinkExtent x v owner birth target e pred succ s).volumes
    accounts := (relinkExtent x v owner birth target e pred succ s).accounts
    epu := { s.epu with walk := (relinkExtent x v owner birth target e pred succ s).epu.walk } } := by
  apply State.eq_of
  all_goals simp [relinkExtent, setExtent]

end Extent

/-! ## The figures and statistics of a step (R105) -/

/-- R105: figures after `u` extents were relinked for the account and `k` of its hold handled, in a record that these
reach `m` times, and `lost` RETAINED extents were taken over from it. -/
def settledFigures (m u k lost : Nat) (f : Figures) : Figures :=
  { f with used := f.used + m * u, hold := f.hold - m * k, retained := f.retained - lost }

/-- R40: one restore in. -/
def restoredIn (u : Nat) (x : Stats) : Stats := { x with restoresIn := satAdd x.restoresIn u }

theorem settledFigures_iterate (j u k lost : Nat) :
    (settledFigures 1 u k lost)^[j] = settledFigures j u k (j * lost) := by
  funext f
  induction j generalizing f with
  | zero => simp [settledFigures]
  | succ j ih =>
    rw [Function.iterate_succ_apply, ih]
    simp only [settledFigures, Nat.succ_mul]
    congr 1 <;> omega

theorem settledFigures_settledFigures (m u k lost u' k' lost' : Nat) (f : Figures) :
    settledFigures m u' k' lost' (settledFigures m u k lost f) = settledFigures m (u + u') (k + k') (lost + lost') f := by
  simp only [settledFigures, Nat.mul_add]
  congr 1 <;> omega

/-- R105: how many RETAINED extents record `n` loses, as an owner or the group of one. -/
def lostShares (s : State) (made : List Relinked) (n : Nat) : Nat := (made.map fun g => shares s g.owner n).sum

/-- R105: a record after the places of a step have been settled. -/
def settledAccount (s : State) (target : Nat) (made : List Relinked) (k n : Nat) : Account → Account :=
  refigured (settledFigures (shares s target n) made.length k (lostShares s made n))
    (restoredIn 1)^[shares s target n * made.length]

/-- R104: the hold of the target falls by one. -/
theorem releaseHold_look (s : State) (target m : Nat) : look (releaseHold target 1 s).accounts m =
    (look s.accounts m).map (refigured (settledFigures (shares s target m) 0 1 0) id) := by
  change look (changeFigures target (settledFigures 1 0 1 0) s).accounts m = _
  rw [changeFigures_look, settledFigures_iterate, Nat.mul_zero]

/-- R105: the records after one extent is relinked. -/
theorem relinkExtent_accounts (x v owner birth target e : Nat) (pred succ : Option Nat) (s : State) (m : Nat) :
    look (relinkExtent x v owner birth target e pred succ s).accounts m = (look s.accounts m).map
      (refigured (settledFigures (shares s target m) 1 1 (shares s owner m)) (restoredIn 1)^[shares s target m]) := by
  have hacc : (relinkExtent x v owner birth target e pred succ s).accounts =
      (changeStats target (restoredIn 1) (changeFigures target (settledFigures 1 1 1 0)
        (changeFigures owner (settledFigures 0 0 0 1) s))).accounts := by
    refine changeStats_congr (changeFigures_congr ?_ _ _) _ _
    have : ∀ u : State, (setExtent x (.live v target birth e) u).accounts = u.accounts := fun _ => rfl
    rw [this]
    exact changeFigures_congr (by simp) _ _
  have hp : SameParents s (changeFigures owner (settledFigures 0 0 0 1) s) := changeFigures_sameParents _ _ _
  have hp' : SameParents s (changeFigures target (settledFigures 1 1 1 0) (changeFigures owner (settledFigures 0 0 0 1) s)) :=
    hp.trans (changeFigures_sameParents _ _ _)
  have hown : ∀ j, (settledFigures 0 0 0 1)^[j] = settledFigures 0 0 0 j := by
    intro j
    induction j with
    | zero => rfl
    | succ j ih =>
      funext f
      rw [Function.iterate_succ_apply', ih, settledFigures_settledFigures]
  rw [hacc, changeStats_look, changeFigures_look, changeFigures_look, shares_congr hp', shares_congr hp, hown,
    settledFigures_iterate, Option.map_map, Option.map_map]
  rfl

/-! ## How far a step has come -/

/-- R104, R105: the step of context `c` has taken the places `done`, having begun in the state `s` with `r₀` to do: what
the state, the places, the changes, the owners and the hold have become. -/
structure RelinkedSo (s : State) (c : Context) (done : List Place) (r₀ r : Relink) : Prop where
  frame : r.state = { s with pool := r.state.pool, volumes := r.state.volumes, accounts := r.state.accounts,
                             epu := { s.epu with walk := r.state.epu.walk } }
  pool : r.state.pool = { s.pool with extents := r.state.pool.extents }
  made : ∀ g ∈ madeOf s done,
    look r.state.pool.extents g.extent = some (.live g.volume c.target g.birth (openEpoch s g.volume))
  kept : ∀ x, (∀ g ∈ madeOf s done, g.extent ≠ x) →
    (look r.state.pool.extents x).map withoutLinks = (look s.pool.extents x).map withoutLinks
  volumes : ∀ v, (look r.state.volumes v).map unlinked = (look s.volumes v).map unlinked
  accounts : ∀ n, look r.state.accounts n =
    (look s.accounts n).map (settledAccount s c.target (madeOf s done) (countMark .heldRetained done) n)
  places : r.done = r₀.done ++ settledOf s done
  changes : r.changes = r₀.changes ++ birthsOf s done
  owners : r.owners.Nodup ∧ ∀ n, n ∈ r.owners ↔ ∃ g ∈ madeOf s done, g.owner = n
  hold : r.hold = r₀.hold - countMark .heldRetained done

theorem RelinkedSo.begin {s : State} (c : Context) {r₀ : Relink} (hs : r₀.state = s) (ho : r₀.owners = []) :
    RelinkedSo s c [] r₀ r₀ where
  frame := by rw [hs]
  pool := by rw [hs]
  made _ h := nomatch h
  kept _ _ := by rw [hs]
  volumes _ := by rw [hs]
  accounts n := by
    rw [hs]
    have : settledAccount s c.target (madeOf s []) (countMark .heldRetained []) n = id := by
      funext a
      simp [settledAccount, settledFigures, madeOf, lostShares, countMark, refigured]
    rw [this, Option.map_id_fun]
    rfl
  places := by simp [settledOf]
  changes := by simp [birthsOf]
  owners := by simp [ho, madeOf]
  hold := rfl

/-- R22: the step leaves the bodies of the records. -/
theorem RelinkedSo.bodies {s : State} {c : Context} {done : List Place} {r₀ r : Relink} (h : RelinkedSo s c done r₀ r) :
    SameBodies s r.state := by
  intro n
  rw [h.accounts, Option.map_map]
  rfl

/-- R104: a place passed over. -/
theorem RelinkedSo.next_passed {s : State} {c : Context} {done : List Place} {r₀ r : Relink} {p : Place}
    (h : RelinkedSo s c done r₀ r) (hp : p.mark ≠ .heldRetained) :
    RelinkedSo s c (done ++ [p]) r₀ (relinkOne c r p) := by
  have hm : madeOf s (done ++ [p]) = madeOf s done := by simp [madeOf_concat, relinkedNext_passed hp]
  have hc : countMark .heldRetained (done ++ [p]) = countMark .heldRetained done := by simp [countMark_concat, hp]
  rw [relinkOne, if_neg hp]
  refine ⟨h.frame, h.pool, hm ▸ h.made, hm ▸ h.kept, h.volumes, hm ▸ hc ▸ h.accounts, ?_, ?_, hm ▸ h.owners, hc ▸ h.hold⟩
  · rw [settledOf_concat, if_neg hp, ← List.append_assoc, ← h.places]
  · rw [birthsOf_concat, if_neg hp, List.append_nil]
    exact h.changes

/-- R104: a place whose extent is not, or no longer, RETAINED. -/
theorem RelinkedSo.next_live {s : State} {c : Context} {done : List Place} {r₀ r : Relink} {p : Place}
    (h : RelinkedSo s c done r₀ r) (hp : p.mark = .heldRetained) (hn : relinkedNext s done p = none)
    (he : ∀ v o b sh d q q', extentAt r.state.pool p.extent ≠ some (.retained v o b sh d q q')) :
    RelinkedSo s c (done ++ [p]) r₀ (relinkOne c r p) := by
  have hm : madeOf s (done ++ [p]) = madeOf s done := by simp [madeOf_concat, hn]
  have hone : relinkOne c r p = { r with state := releaseHold c.target 1 r.state, done := r.done ++ [⟨p.extent, .alreadyLive⟩],
                                         changes := r.changes ++ [none], hold := r.hold - 1 } := by
    rw [relinkOne, if_pos hp, relinkPlace]
    split
    · next hx => exact (he _ _ _ _ _ _ _ hx).elim
    · rfl
  have hframe : releaseHold c.target 1 r.state = { r.state with accounts := (releaseHold c.target 1 r.state).accounts } :=
    changeFigures_eq ..
  rw [hone]
  refine ⟨?_, ?_, ?_, ?_, ?_, fun n => ?_, ?_, ?_, hm ▸ h.owners, ?_⟩
  · refine (hframe.trans (congrArg (fun u : State => { u with accounts := (releaseHold c.target 1 r.state).accounts }) h.frame)).trans ?_
    simp [releaseHold]
  · rw [hframe]; exact h.pool
  · rw [hframe]; exact hm ▸ h.made
  · rw [hframe]; exact hm ▸ h.kept
  · rw [hframe]; exact h.volumes
  · rw [releaseHold_look, h.accounts, Option.map_map, shares_congr h.bodies.parents, countMark_concat, if_pos hp, hm]
    congr 1
    funext a
    simp only [Function.comp_apply, settledAccount, refigured_refigured, Function.id_comp]
    congr 1
    funext f
    rw [Function.comp_apply, settledFigures_settledFigures]
    rfl
  · rw [settledOf_concat, if_pos hp, hn, ← List.append_assoc, ← h.places]
    rfl
  · rw [birthsOf_concat, if_pos hp, hn, ← List.append_assoc, ← h.changes]
    rfl
  · change r.hold - 1 = _
    rw [h.hold, countMark_concat, if_pos hp]
    omega

/-- R105: a place whose extent is relinked. -/
theorem RelinkedSo.next_retained {s : State} {c : Context} {done : List Place} {r₀ r : Relink} {p : Place}
    {v o b sh d : Nat} {q q' : Option Nat} (h : RelinkedSo s c done r₀ r) (hp : p.mark = .heldRetained)
    (hn : relinkedNext s done p = some ⟨p.extent, v, o, b⟩)
    (he : extentAt r.state.pool p.extent = some (.retained v o b sh d q q')) :
    relinkOne c r p =
      { state := relinkExtent p.extent v o b c.target (openEpoch s v) q q' r.state, done := r.done ++ [⟨p.extent, .relinked⟩],
        changes := r.changes ++ [some ⟨.birth, v, p.extent, openEpoch s v, none⟩],
        owners := if o ∈ r.owners then r.owners else r.owners ++ [o], hold := r.hold - 1 } ∧
    RelinkedSo s c (done ++ [p]) r₀ (relinkOne c r p) := by
  have hm : madeOf s (done ++ [p]) = madeOf s done ++ [⟨p.extent, v, o, b⟩] := by simp [madeOf_concat, hn]
  have hone : relinkOne c r p =
      { state := relinkExtent p.extent v o b c.target (openEpoch s v) q q' r.state, done := r.done ++ [⟨p.extent, .relinked⟩],
        changes := r.changes ++ [some ⟨.birth, v, p.extent, openEpoch s v, none⟩],
        owners := if o ∈ r.owners then r.owners else r.owners ++ [o], hold := r.hold - 1 } := by
    rw [relinkOne, if_pos hp, relinkPlace]
    simp only [he, openEpoch_unlinked h.volumes]
  refine ⟨hone, ?_⟩
  rw [hone]
  have hlook := relinkExtent_look p.extent v o b c.target (openEpoch s v) q q' r.state
  have hpool := relinkExtent_pool p.extent v o b c.target (openEpoch s v) q q' r.state
  have hvol := relinkExtent_volumes p.extent v o b c.target (openEpoch s v) q q' r.state
  have hacc := relinkExtent_accounts p.extent v o b c.target (openEpoch s v) q q' r.state
  have hframe := relinkExtent_eq p.extent v o b c.target (openEpoch s v) q q' r.state
  generalize relinkExtent p.extent v o b c.target (openEpoch s v) q q' r.state = u at *
  have hnew : ∀ g ∈ madeOf s done, g.extent ≠ p.extent := by
    intro g hg hx
    have hlive := h.made g hg
    unfold extentAt at he
    split at he
    · rw [← hx, hlive] at he
      cases he
    · cases he
  refine ⟨?_, ?_, fun g hg => ?_, fun x hx => ?_, fun w => ?_, fun n => ?_, ?_, ?_, ?_, ?_⟩
  · exact hframe.trans (congrArg (fun t : State => { t with
      pool := u.pool, volumes := u.volumes, accounts := u.accounts, epu := { t.epu with walk := u.epu.walk } }) h.frame)
  · change u.pool = { s.pool with extents := u.pool.extents }
    rw [hpool]
    conv_lhs => rw [h.pool]
  · change look u.pool.extents g.extent = _
    rw [hm] at hg
    rcases List.mem_append.mp hg with hg | hg
    · rw [hlook, if_neg (hnew g hg), h.made g hg]
      rw [Option.map_some, bridge_live]
    · obtain rfl := List.mem_singleton.mp hg
      rw [hlook, if_pos rfl]
  · change (look u.pool.extents x).map withoutLinks = _
    rw [hm] at hx
    have hxp : x ≠ p.extent := fun hxp => hx ⟨p.extent, v, o, b⟩ (by simp) hxp.symm
    rw [hlook, if_neg hxp, Option.map_map, ← h.kept x fun g hg => hx g (List.mem_append_left _ hg)]
    congr 1
    exact funext fun e => withoutLinks_bridge ..
  · change (look u.volumes w).map unlinked = _
    rw [hvol, ← h.volumes]
    split
    · rw [Option.map_map]; rfl
    · rfl
  · change look u.accounts n = _
    rw [hacc, h.accounts, Option.map_map, shares_congr h.bodies.parents, shares_congr h.bodies.parents, countMark_concat,
      if_pos hp, hm]
    congr 1
    funext a
    simp only [Function.comp_apply, settledAccount, refigured_refigured]
    congr 1
    · funext f
      rw [Function.comp_apply, settledFigures_settledFigures]
      simp [lostShares]
    · rw [← Function.iterate_add, List.length_append, List.length_singleton, Nat.mul_add, Nat.mul_one, Nat.add_comm]
  · rw [settledOf_concat, if_pos hp, hn, ← List.append_assoc, ← h.places]
    rfl
  · rw [birthsOf_concat, if_pos hp, hn, ← List.append_assoc, ← h.changes]
    rfl
  · rw [hm]
    have hraw := owners_further (raw := (madeOf s done).map (·.owner)) o ⟨h.owners.1, fun n => by simp [h.owners.2]⟩
    refine ⟨hraw.1, fun n => (hraw.2 n).trans ?_⟩
    simp [or_and_right, exists_or, eq_comm]
  · change r.hold - 1 = _
    rw [h.hold, countMark_concat, if_pos hp]
    omega

/-- R104: what a place marked HELD_RETAINED comes to depends on the state in which the step began. -/
theorem RelinkedSo.next_cases {s : State} {c : Context} {done : List Place} {r₀ r : Relink} (h : RelinkedSo s c done r₀ r)
    {p : Place} (hp : p.mark = .heldRetained) :
    (relinkedNext s done p = none ∧
      ∀ v o b sh d q q', extentAt r.state.pool p.extent ≠ some (.retained v o b sh d q q')) ∨
    ∃ v o b sh d q q', relinkedNext s done p = some ⟨p.extent, v, o, b⟩ ∧
      extentAt r.state.pool p.extent = some (.retained v o b sh d q q') := by
  have hcap : r.state.pool.capacity = s.pool.capacity := by rw [h.pool]
  by_cases hm : ∃ g ∈ madeOf s done, g.extent = p.extent
  · obtain ⟨g, hg, hx⟩ := hm
    refine .inl ⟨relinkedNext_again (mem_madeOf.mp ⟨g, hg, hx⟩).1, fun v o b sh d q q' he => ?_⟩
    have hlive := h.made g hg
    unfold extentAt at he
    split at he
    · rw [← hx, hlive] at he
      cases he
    · cases he
  · have hkept := h.kept p.extent fun g hg hx => hm ⟨g, hg, hx⟩
    by_cases hr : ∃ v o b sh d q q', extentAt s.pool p.extent = some (.retained v o b sh d q q')
    · obtain ⟨v, o, b, sh, d, q, q', he⟩ := hr
      have hn : ⟨p.extent, .heldRetained⟩ ∉ done := fun hd => hm (mem_madeOf.mpr ⟨hd, v, o, b, sh, d, q, q', he⟩)
      refine .inr ⟨v, o, b, sh, d, ?_⟩
      unfold extentAt at he
      split at he
      · next hlt =>
        rw [he, Option.map_some] at hkept
        obtain ⟨w, w', hw⟩ := map_withoutLinks_retained.mp hkept
        refine ⟨w, w', relinkedNext_retained hp hn ((if_pos hlt).trans he), ?_⟩
        rw [extentAt, hcap, if_pos hlt, hw]
      · cases he
    · refine .inl ⟨relinkedNext_other (by simpa using hr), fun v o b sh d q q' he => hr ⟨v, o, b, sh, d, ?_⟩⟩
      unfold extentAt at he ⊢
      rw [hcap] at he
      split at he
      · next hlt =>
        rw [he, Option.map_some] at hkept
        rw [if_pos hlt]
        exact map_withoutLinks_retained.mp hkept.symm
      · cases he

/-- R104, R105: how far the step has come after the places of a list. -/
theorem RelinkedSo.places_done {s : State} (c : Context) {r₀ : Relink} (hs : r₀.state = s) (ho : r₀.owners = [])
    (done : List Place) : RelinkedSo s c done r₀ (done.foldl (relinkOne c) r₀) := by
  induction done using List.reverseRecOn with
  | nil => exact .begin c hs ho
  | append_singleton done p ih =>
    rw [List.foldl_append, List.foldl_cons, List.foldl_nil]
    by_cases hp : p.mark = .heldRetained
    · rcases ih.next_cases hp with ⟨hn, he⟩ | ⟨v, o, b, sh, d, q, q', hn, he⟩
      · exact ih.next_live hp hn he
      · exact (ih.next_retained hp hn he).2
    · exact ih.next_passed hp

end Sys2Proof.Machine

/-! SUPPORT. Chains and the walk under a RELINK step (R85, R92, R93). -/

namespace Sys2Proof.Machine

/-! ## A walk whose chain loses a record (R92, R93) -/

/-- R92, R93: what is left of the walk `k` when `M` is left of what it had to process. -/
def WalkLeft (k : Walk) (M : List Nat) (w : Walk) : Prop :=
  w = { k with position := w.position, endMarker := w.endMarker, finished := M.isEmpty } ∧
  (M ≠ [] → w.position = M.head? ∧ w.endMarker = M.getLast?)

/-- R92, R93: a walk on another volume is as it was. -/
theorem walkAfterRemoval_other {v x : Nat} {pred succ : Option Nat} {w : Walk} (h : w.volume ≠ v) :
    walkAfterRemoval v x pred succ w = w := if_neg h

/-- R92, R93: a record that is neither at the position nor at the end marker leaves both. -/
theorem walkAfterRemoval_apart {v x : Nat} {pred succ : Option Nat} {w : Walk} (hp : w.position ≠ some x)
    (he : w.endMarker ≠ some x) : walkAfterRemoval v x pred succ w = w := by
  simp [walkAfterRemoval, hp, he]

/-- R92, R93: a removal sets only the position, the end marker and, for good, the finished flag. -/
theorem walkAfterRemoval_sets (v x : Nat) (pred succ : Option Nat) (w : Walk) :
    walkAfterRemoval v x pred succ w = { w with
      position := (walkAfterRemoval v x pred succ w).position, endMarker := (walkAfterRemoval v x pred succ w).endMarker
      finished := (walkAfterRemoval v x pred succ w).finished } ∧
    (w.finished = true → (walkAfterRemoval v x pred succ w).finished = true) := by
  unfold walkAfterRemoval
  split
  · dsimp only
    split
    · split
      · exact ⟨rfl, fun _ => rfl⟩
      · exact ⟨rfl, id⟩
    · exact ⟨rfl, id⟩
  · exact ⟨rfl, id⟩

theorem walk_sets_trans {k w w' : Walk} {b : Bool}
    (hw : w = { k with position := w.position, endMarker := w.endMarker, finished := b })
    (h : w' = { w with position := w'.position, endMarker := w'.endMarker, finished := w'.finished }) :
    w' = { k with position := w'.position, endMarker := w'.endMarker, finished := w'.finished } :=
  h.trans (congrArg (fun y : Walk => { y with
    position := w'.position, endMarker := w'.endMarker, finished := w'.finished }) hw)

/-- R92, R93: the record `x` between `C` and `D` leaves what a walk has left to process. -/
theorem walkAfterRemoval_within {k w : Walk} {P C D A : List Nat} {x : Nat} (hd : (C ++ x :: D).Nodup)
    (h : WalkLeft k (C ++ x :: D) w) :
    WalkLeft k (C ++ D) (walkAfterRemoval k.volume x (P ++ C).getLast? (D ++ A).head? w) := by
  obtain ⟨hw, hpos⟩ := h
  obtain ⟨hp, he⟩ := hpos (by simp)
  have hv : w.volume = k.volume := by rw [hw]
  have hf : w.finished = false := by rw [hw]; simp
  have hC : w.position = some x ↔ C = [] := by
    rw [hp]
    cases C with
    | nil => simp
    | cons y C =>
      have : y ≠ x := by
        rintro rfl
        simp at hd
      simp [this]
  have hD : w.endMarker = some x ↔ D = [] := by
    rw [he, List.getLast?_append_cons]
    rcases D.eq_nil_or_concat' with rfl | ⟨D, y, rfl⟩
    · simp
    · have hx : x ∉ D ++ [y] := (List.nodup_cons.mp (List.nodup_append.mp hd).2.1).1
      have : y ≠ x := by
        rintro rfl
        simp at hx
      rw [← List.cons_append, List.getLast?_concat]
      simp [this]
  obtain ⟨hsets, -⟩ := walkAfterRemoval_sets k.volume x (P ++ C).getLast? (D ++ A).head? w
  have hposition : (walkAfterRemoval k.volume x (P ++ C).getLast? (D ++ A).head? w).position =
      if C = [] then (D ++ A).head? else w.position := by
    unfold walkAfterRemoval
    rw [if_pos hv]
    simp only [hC]
    split
    · split <;> rfl
    · rfl
  have hrest : ((walkAfterRemoval k.volume x (P ++ C).getLast? (D ++ A).head? w).finished,
      (walkAfterRemoval k.volume x (P ++ C).getLast? (D ++ A).head? w).endMarker) =
      if D = [] then if C = [] then (true, none) else (false, C.getLast?) else (false, w.endMarker) := by
    have hpred : C ≠ [] → (P ++ C).getLast? = C.getLast? ∧ C.getLast? ≠ none := by
      intro hne
      rcases C.eq_nil_or_concat' with rfl | ⟨C, y, rfl⟩
      · exact absurd rfl hne
      · simp [← List.append_assoc]
    unfold walkAfterRemoval
    rw [if_pos hv]
    simp only [hC, hD]
    by_cases h1 : D = []
    · by_cases h2 : C = []
      · simp [h1, h2]
      · obtain ⟨hl, hn⟩ := hpred h2
        simp [h1, h2, hl, hf]
    · simp [h1, hf]
  obtain ⟨hfin, hend⟩ := Prod.mk.inj (hrest.trans (Prod.mk.eta).symm)
  have hempty : (walkAfterRemoval k.volume x (P ++ C).getLast? (D ++ A).head? w).finished = (C ++ D).isEmpty := by
    rw [hfin]
    by_cases h1 : D = [] <;> by_cases h2 : C = [] <;> simp [h1, h2]
  refine ⟨?_, fun hne => ⟨?_, ?_⟩⟩
  · rw [← hempty]
    exact walk_sets_trans hw hsets
  · rw [hposition, hp]
    cases C with
    | nil =>
      cases D with
      | nil => exact absurd rfl hne
      | cons y D => rfl
    | cons y C => rfl
  · rw [hend, he]
    by_cases h1 : D = []
    · have h2 : C ≠ [] := fun h2 => hne (by rw [h1, h2]; rfl)
      simp [h1, h2]
    · rcases D.eq_nil_or_concat' with rfl | ⟨D, y, rfl⟩
      · exact absurd rfl h1
      · rw [if_neg h1, ← List.append_assoc, List.getLast?_concat, ← List.cons_append, ← List.append_assoc, List.getLast?_concat]

theorem filter_ne_of_notMem {l : List Nat} {x : Nat} (h : x ∉ l) : l.filter (· ≠ x) = l :=
  List.filter_eq_self.mpr fun _ hy => decide_eq_true fun he => h (he ▸ hy)

theorem filter_ne_middle {B B' : List Nat} {x : Nat} (hd : (B ++ x :: B').Nodup) :
    (B ++ x :: B').filter (· ≠ x) = B ++ B' := by
  have hx := (List.nodup_cons.mp (List.nodup_middle.mp hd)).1
  rw [List.filter_append, List.filter_cons_of_neg (by simp), filter_ne_of_notMem fun h => hx (List.mem_append_left _ h),
    filter_ne_of_notMem fun h => hx (List.mem_append_right _ h)]

/-- R92, R93: the record `x` leaves the chain of a walk. -/
theorem walkAfterRemoval_left {k w : Walk} {P M A B B' : List Nat} {x : Nat} (hL : P ++ M ++ A = B ++ x :: B')
    (hd : (P ++ M ++ A).Nodup) (h : WalkLeft k M w) :
    WalkLeft k (M.filter (· ≠ x)) (walkAfterRemoval k.volume x B.getLast? B'.head? w) := by
  have hdM : M.Nodup := (List.nodup_append.mp (List.nodup_append.mp hd).1).2.1
  by_cases hx : x ∈ M
  · obtain ⟨C, D, rfl⟩ := List.append_of_mem hx
    have hsplit : (P ++ C) ++ x :: (D ++ A) = B ++ x :: B' := by rw [← hL]; simp
    have hxall : x ∉ (P ++ C) ++ (D ++ A) := by
      refine (List.nodup_cons.mp (List.nodup_middle.mp ?_)).1
      rw [hsplit, ← hL]
      exact hd
    obtain ⟨rfl, -, rfl⟩ := (List.append_cons_inj_of_notMem (fun h => hxall (List.mem_append_left _ h))
      (fun h => hxall (List.mem_append_right _ h))).mp hsplit
    rw [filter_ne_middle hdM]
    exact walkAfterRemoval_within hdM h
  · rw [filter_ne_of_notMem hx]
    obtain ⟨hw, hpos⟩ := h
    by_cases hM : M = []
    · obtain ⟨hsets, hfin⟩ := walkAfterRemoval_sets k.volume x B.getLast? B'.head? w
      have : (walkAfterRemoval k.volume x B.getLast? B'.head? w).finished = M.isEmpty := by
        rw [hfin (by rw [hw, hM]; rfl), hM]
        rfl
      refine ⟨?_, fun hne => absurd hM hne⟩
      rw [← this]
      exact walk_sets_trans hw hsets
    · obtain ⟨hp, he⟩ := hpos hM
      rw [walkAfterRemoval_apart (by rw [hp]; exact fun h => hx (List.mem_of_mem_head? h))
        (by rw [he]; exact fun h => hx (List.mem_of_getLast? h))]
      exact ⟨hw, hpos⟩

end Sys2Proof.Machine

/-! SUPPORT. The chains and the walk that a RELINK step leaves (R85, R92, R93). -/

namespace Sys2Proof.Machine

/-- R105: an extent is not among those that a step relinks. -/
def remains (made : List Relinked) (x : Nat) : Bool := made.all fun g => g.extent ≠ x

theorem remains_iff {made : List Relinked} {x : Nat} : remains made x = true ↔ ∀ g ∈ made, g.extent ≠ x := by
  simp [remains]

theorem filter_remains_concat (made : List Relinked) (g : Relinked) (L : List Nat) :
    L.filter (remains (made ++ [g])) = (L.filter (remains made)).filter (· ≠ g.extent) := by
  rw [List.filter_filter]
  refine List.filter_congr fun x _ => ?_
  simp [remains, Bool.and_comm, eq_comm]

/-- R83: every RETAINED extent lies on the chain of its volume. -/
def RetainedChained (s : State) : Prop := ∀ x v o b sh d p q, look s.pool.extents x = some (.retained v o b sh d p q) →
  ∃ V L, look s.volumes v = some V ∧ ChainOf s v V L

theorem ChainsWell.retainedChained {s : State} (h : ChainsWell s) : RetainedChained s := by
  intro x v o b sh d p q hx
  obtain ⟨V, hV⟩ := h.active x _ hx
  obtain ⟨L, hL, -, -⟩ := h.chains v V hV
  exact ⟨V, L, hV, hL⟩

/-- R83: the records of a chain are RETAINED extents of its volume. -/
theorem ChainOf.retained {s : State} {v : Nat} {V : Volume} {L : List Nat} (h : ChainOf s v V L) {x : Nat} (hx : x ∈ L) :
    ∃ o b sh d p q, look s.pool.extents x = some (.retained v o b sh d p q) := by
  obtain ⟨i, hi⟩ := List.getElem?_of_mem hx
  obtain ⟨o, b, sh, d, -, hl⟩ := h.linked i x hi
  exact ⟨o, b, sh, d, _, _, hl⟩

/-- R85: relinking an extent of another volume leaves the RETAINED records of a volume. -/
theorem bridged_elsewhere {s t : State} {v w x : Nat} {W : Volume} {A B : List Nat} (hvw : v ≠ w)
    (hc : ChainOf s w W (A ++ x :: B))
    (hlook : ∀ y, look t.pool.extents y =
      if y = x then look t.pool.extents x else (look s.pool.extents y).map (bridge A.getLast? B.head? y))
    (hx : ∀ o b sh d p q, look t.pool.extents x ≠ some (.retained v o b sh d p q))
    (y o b sh d : Nat) (p q : Option Nat) : look t.pool.extents y = some (.retained v o b sh d p q) ↔
      look s.pool.extents y = some (.retained v o b sh d p q) := by
  have elsewhere : ∀ z ∈ A ++ x :: B, look s.pool.extents z ≠ some (.retained v o b sh d p q) ∧
      (look s.pool.extents z).map (bridge A.getLast? B.head? z) ≠ some (.retained v o b sh d p q) := by
    intro z hz
    obtain ⟨o', b', sh', d', p', q', hl⟩ := hc.retained hz
    rw [hl, Option.map_some, bridge_retained]
    refine ⟨fun h => hvw ?_, fun h => hvw ?_⟩
    · exact (Extent.retained.inj (Option.some.inj h)).1.symm
    · exact (Extent.retained.inj (Option.some.inj h)).1.symm
  by_cases hyx : y = x
  · subst hyx
    exact ⟨fun h => absurd h (hx o b sh d p q), fun h => absurd h (elsewhere y (by simp)).1⟩
  · rw [hlook, if_neg hyx]
    by_cases hy : y ∈ A ++ x :: B
    · exact ⟨fun h => absurd h (elsewhere y hy).2, fun h => absurd h (elsewhere y hy).1⟩
    · have hA : A.getLast? ≠ some y := fun h => hy (List.mem_append_left _ (List.mem_of_getLast? h))
      have hB : B.head? ≠ some y := fun h => hy (by simp [List.mem_of_mem_head? h])
      cases look s.pool.extents y with
      | none => rfl
      | some e => rw [Option.map_some, bridge_of_ne hA hB]

/-- R85, R92, R93: what a step has left of the chains, and of the walk `k` of the state in which it began. -/
structure ChainsLeft (s : State) (made : List Relinked) (u : State) : Prop where
  chains : ∀ v V L, look s.volumes v = some V → ChainOf s v V L →
    ∃ W, look u.volumes v = some W ∧ ChainOf u v W (L.filter (remains made))
  walk : ∀ v V P M A k, look s.volumes v = some V → ChainOf s v V (P ++ M ++ A) → s.epu.walk = some k → k.volume = v →
    WalkLeft k M k → ∃ k', u.epu.walk = some k' ∧ WalkLeft k (M.filter (remains made)) k'

theorem filter_remains_nil (L : List Nat) : L.filter (remains []) = L := by simp [remains]

theorem ChainsLeft.begin (s : State) : ChainsLeft s [] s where
  chains v V L hV hL := ⟨V, hV, by rw [filter_remains_nil]; exact hL⟩
  walk _ _ _ M _ k _ _ hk _ hw := ⟨k, hk, by rw [filter_remains_nil]; exact hw⟩

/-- R83, R85: the place of a RETAINED record in what a step has left of its chain. -/
theorem ChainsLeft.place {s u : State} {made : List Relinked} (h : ChainsLeft s made u) {x v o b sh d : Nat}
    {p q : Option Nat} {V : Volume} {L : List Nat} (hV : look s.volumes v = some V) (hL : ChainOf s v V L)
    (hx : look u.pool.extents x = some (.retained v o b sh d p q)) :
    ∃ W B B', look u.volumes v = some W ∧ ChainOf u v W (B ++ x :: B') ∧ L.filter (remains made) = B ++ x :: B' ∧
      p = B.getLast? ∧ q = B'.head? := by
  obtain ⟨W, hW, hc⟩ := h.chains v V L hV hL
  obtain ⟨B, B', hB⟩ := List.append_of_mem (hc.whole x o b sh d p q hx)
  rw [hB] at hc
  obtain ⟨o', b', sh', d', -, hl⟩ := ChainOf.record hc
  rw [hx] at hl
  obtain ⟨-, -, -, -, -, hp, hq⟩ := Extent.retained.inj (Option.some.inj hl)
  exact ⟨W, B, B', hW, hc, hB, hp, hq⟩

/-- R85, R92, R93: one extent more is relinked. -/
theorem ChainsLeft.next {s u : State} {made : List Relinked} (h : ChainsLeft s made u) (hs : RetainedChained s)
    (hkept : ∀ v o b sh d p q x, look u.pool.extents x = some (.retained v o b sh d p q) →
      ∃ p' q', look s.pool.extents x = some (.retained v o b sh d p' q'))
    {x v o b sh d target e : Nat} {p q : Option Nat} (hx : look u.pool.extents x = some (.retained v o b sh d p q)) :
    ChainsLeft s (made ++ [⟨x, v, o, b⟩]) (relinkExtent x v o b target e p q u) := by
  have hlook := relinkExtent_look x v o b target e p q u
  have hvol := relinkExtent_volumes x v o b target e p q u
  have hwalk := relinkExtent_walk x v o b target e p q u
  generalize relinkExtent x v o b target e p q u = t at *
  have hlive : look t.pool.extents x = some (.live v target b e) := by rw [hlook, if_pos rfl]
  have hgone : ∀ w o b sh d p q, look t.pool.extents x ≠ some (.retained w o b sh d p q) := by
    intro w o b sh d p q hr
    rw [hlive] at hr
    cases hr
  refine ⟨fun w V L hV hL => ?_, fun w V P M A k hV hL hk hkw hleft => ?_⟩
  · rw [filter_remains_concat]
    by_cases hwv : w = v
    · subst hwv
      obtain ⟨W, B, B', hW, hc, hB, rfl, rfl⟩ := h.place hV hL hx
      refine ⟨unchained B.getLast? B'.head? W, by rw [hvol, if_pos rfl, hW]; rfl, ?_⟩
      rw [hB, filter_ne_middle hc.once]
      exact hc.removed (fun y hy => by rw [hlook, if_neg hy]) (hgone w) rfl rfl rfl rfl
    · obtain ⟨p', q', hxs⟩ := hkept v o b sh d p q x hx
      obtain ⟨V₀, L₀, hV₀, hL₀⟩ := hs x v o b sh d p' q' hxs
      obtain ⟨W₀, B, B', -, hc₀, -, rfl, rfl⟩ := h.place hV₀ hL₀ hx
      obtain ⟨W, hW, hc⟩ := h.chains w V L hV hL
      have hxL : x ∉ L.filter (remains made) := by
        intro hm
        obtain ⟨o', b', sh', d', p', q', hl⟩ := hc.retained hm
        rw [hx] at hl
        exact hwv (Extent.retained.inj (Option.some.inj hl)).1.symm
      refine ⟨W, by rw [hvol, if_neg hwv, hW], ?_⟩
      rw [filter_ne_of_notMem hxL]
      refine hc.congr (fun y o b sh d p q => ?_) rfl rfl rfl rfl
      refine bridged_elsewhere hwv hc₀ (fun z => ?_) (hgone w) y o b sh d p q
      rw [hlive, hlook]
  · obtain ⟨k', hk', hw'⟩ := h.walk w V P M A k hV hL hk hkw hleft
    have hkv : k'.volume = w := by rw [hw'.1]; exact hkw
    refine ⟨walkAfterRemoval v x p q k', by rw [hwalk, hk']; rfl, ?_⟩
    rw [filter_remains_concat]
    by_cases hwv : w = v
    · subst hwv
      obtain ⟨W, B, B', hW, hc, hB, rfl, rfl⟩ := h.place hV hL hx
      rw [← hkw]
      rw [List.filter_append, List.filter_append] at hB
      exact walkAfterRemoval_left hB (hB ▸ hc.once) hw'
    · rw [walkAfterRemoval_other (by rw [hkv]; exact hwv)]
      have hxM : x ∉ M.filter (remains made) := by
        intro hm
        obtain ⟨W, -, hc⟩ := h.chains w V _ hV hL
        have hmem : x ∈ (P ++ M ++ A).filter (remains made) := by
          rw [List.filter_append, List.filter_append]
          exact List.mem_append_left _ (List.mem_append_right _ hm)
        obtain ⟨o', b', sh', d', p', q', hl⟩ := hc.retained hmem
        rw [hx] at hl
        exact hwv (Extent.retained.inj (Option.some.inj hl)).1.symm
      rw [filter_ne_of_notMem hxM]
      exact hw'

/-- R92, R93, R104: what a step leaves of the chains and the walk after the places of a list. -/
theorem ChainsLeft.places_done {s : State} (hs : RetainedChained s) (c : Context) {r₀ : Relink} (h₀ : r₀.state = s)
    (ho : r₀.owners = []) (done : List Place) :
    ChainsLeft s (madeOf s done) (done.foldl (relinkOne c) r₀).state := by
  induction done using List.reverseRecOn with
  | nil => rw [List.foldl_nil, h₀]; exact .begin s
  | append_singleton done p ih =>
    have hso := RelinkedSo.places_done c h₀ ho done
    rw [List.foldl_append, List.foldl_cons, List.foldl_nil, madeOf_concat]
    generalize done.foldl (relinkOne c) r₀ = r at *
    have carry : ∀ u : State, u.pool.extents = r.state.pool.extents → u.volumes = r.state.volumes →
        u.epu.walk = r.state.epu.walk → relinkedNext s done p = none →
        ChainsLeft s (madeOf s done ++ (relinkedNext s done p).toList) u := by
      intro u hp hv hw hn
      rw [hn, Option.toList_none, List.append_nil]
      refine ⟨fun v V L hV hL => ?_, fun v V P M A k hV hL hk hkv hleft => ?_⟩
      · obtain ⟨W, hW, hc⟩ := ih.chains v V L hV hL
        exact ⟨W, by rw [hv]; exact hW, hc.congr (fun y o b sh d p q => by rw [hp]) rfl rfl rfl rfl⟩
      · rw [hw]
        exact ih.walk v V P M A k hV hL hk hkv hleft
    by_cases hp : p.mark = .heldRetained
    · rcases hso.next_cases hp with ⟨hn, he⟩ | ⟨v, o, b, sh, d, q, q', hn, he⟩
      · have hstate : (relinkOne c r p).state = releaseHold c.target 1 r.state := by
          rw [relinkOne, if_pos hp, relinkPlace]
          split
          · next hx => exact (he _ _ _ _ _ _ _ hx).elim
          · rfl
        rw [hstate]
        exact carry _ (by simp [releaseHold]) (by simp [releaseHold]) (by simp [releaseHold]) hn
      · have hstate : (relinkOne c r p).state = _ := congrArg Relink.state (hso.next_retained hp hn he).1
        rw [hstate, hn]
        have hl : look r.state.pool.extents p.extent = some (.retained v o b sh d q q') := by
          unfold extentAt at he
          split at he
          · exact he
          · cases he
        refine ih.next hs (fun v o b sh d p q x hx => ?_) hl
        have hnot : ∀ g ∈ madeOf s done, g.extent ≠ x := by
          rintro g hg rfl
          rw [hso.made g hg] at hx
          cases hx
        have hk := hso.kept x hnot
        rw [hx, Option.map_some] at hk
        exact map_withoutLinks_retained.mp hk.symm
    · have hstate : (relinkOne c r p).state = r.state := by rw [relinkOne, if_neg hp]
      rw [hstate]
      exact carry _ rfl rfl rfl (relinkedNext_passed hp)

end Sys2Proof.Machine

/-! SUPPORT. The journal (R14 to R17): what an append leaves of the volumes, and states that it cannot tell apart. -/

namespace Sys2Proof.Machine

/-! ## What an append leaves of the volumes -/

/-- A volume without the fields that the journal keeps up: the ship mark, the needs-rebase flag and the marks of the
catalogue. -/
def unjournaled (V : Volume) : Volume := { V with shipMark := 0, needsRebase := false, catalogue := [] }

/-- R16, R17: the volumes are as they were but for what the journal keeps up. -/
def SameVolumes (s t : State) : Prop := ∀ v, (look t.volumes v).map unjournaled = (look s.volumes v).map unjournaled

theorem SameVolumes.refl (s : State) : SameVolumes s s := fun _ => rfl

theorem SameVolumes.trans {s t u : State} (h : SameVolumes s t) (h' : SameVolumes t u) : SameVolumes s u :=
  fun v => (h' v).trans (h v)

theorem SameVolumes.of_volumes {s t : State} (h : t.volumes = s.volumes) : SameVolumes s t := fun v => by rw [h]

/-- R16: the mark of a pass that an overwritten entry ends. -/
theorem overrunChannel_sameVolumes (q : Nat) (s : State) (c : ChanId) : SameVolumes s (overrunChannel q s c) := by
  unfold overrunChannel
  split
  · next p _ =>
    split
    · intro v
      rw [stopJournalLost_volumes, modifyVolume_look]
      split
      · rw [Option.map_map]
        rfl
      · rfl
    · exact .refl s
  · exact .refl s

theorem foldl_sameVolumes {α : Type} {f : State → α → State} (hf : ∀ s a, SameVolumes s (f s a)) (l : List α) (s : State) :
    SameVolumes s (l.foldl f s) := by
  induction l generalizing s with
  | nil => exact .refl s
  | cons a l ih => exact (hf s a).trans (ih _)

theorem renumberChannel_sameVolumes (s : State) (c : ChanId) : SameVolumes s (renumberChannel s c) :=
  .of_volumes (by simp)

theorem renumber_sameVolumes (s : State) : SameVolumes s (renumber s) := by
  unfold renumber
  intro v
  rw [placeMl_volumes]
  refine (foldl_sameVolumes renumberChannel_sameVolumes _ _ v).trans ?_
  rw [look_mapTable, Option.map_map]
  rfl

theorem makeRoom_sameVolumes (s : State) : SameVolumes s (makeRoom s) := by
  unfold makeRoom
  split
  · exact (SameVolumes.of_volumes rfl).trans (foldl_sameVolumes (overrunChannel_sameVolumes _) _ _)
  · exact .refl s

theorem appendEntry_sameVolumes (s : State) (e : JournalEntry) : SameVolumes s (appendEntry s e) := by
  have hstart : SameVolumes s (if seqLimit ≤ s.journal.append then renumber s else s) := by
    split
    · exact renumber_sameVolumes s
    · exact .refl s
  exact hstart.trans ((makeRoom_sameVolumes _).trans (.of_volumes rfl))

/-- R14: the appends of an operation leave the volumes but for what the journal keeps up. -/
theorem appendChanges_sameVolumes (l : List (Option LifeChange)) (s : State) : SameVolumes s (appendChanges l s) :=
  foldl_sameVolumes appendEntry_sameVolumes _ s

/-! ## States that an append cannot tell apart -/

/-- R14 to R17: two states alike in the journal, the channels, the management link and, but for their chains, the volumes. -/
structure AppendsAlike (s t : State) : Prop where
  journal : t.journal = s.journal
  channels : t.channels = s.channels
  mlu : t.mlu = s.mlu
  volumes : ∀ v, (look t.volumes v).map unlinked = (look s.volumes v).map unlinked

section Alike
variable {s t : State}

theorem AppendsAlike.placeMl (h : AppendsAlike s t) (n : Notice) : AppendsAlike (placeMl n s) (placeMl n t) := by
  rw [placeMl_eq, placeMl_eq]
  exact ⟨h.journal, h.channels, by rw [h.mlu], h.volumes⟩

theorem AppendsAlike.modifyChannel (h : AppendsAlike s t) (c : ChanId) (f : Channel → Channel) :
    AppendsAlike (modifyChannel c f s) (modifyChannel c f t) :=
  ⟨h.journal, by rw [Machine.modifyChannel, Machine.modifyChannel, h.channels], h.mlu, h.volumes⟩

theorem AppendsAlike.modifyVolume (h : AppendsAlike s t) (v : Nat) (f : Volume → Volume)
    (hf : ∀ V, unlinked (f V) = f (unlinked V)) : AppendsAlike (modifyVolume v f s) (modifyVolume v f t) := by
  refine ⟨h.journal, h.channels, h.mlu, fun w => ?_⟩
  have hcomp : unlinked ∘ f = f ∘ unlinked := funext hf
  rw [modifyVolume_look, modifyVolume_look]
  split
  · rw [Option.map_map, Option.map_map, hcomp, ← Option.map_map, ← Option.map_map, h.volumes]
  · exact h.volumes w

theorem AppendsAlike.stopJournalLost (h : AppendsAlike s t) (c : ChanId) :
    AppendsAlike (stopJournalLost c s) (stopJournalLost c t) := by
  unfold Machine.stopJournalLost
  rw [h.channels]
  split
  · exact (h.modifyChannel c _).placeMl _
  · exact h

theorem AppendsAlike.overrunChannel (h : AppendsAlike s t) (q : Nat) (c : ChanId) :
    AppendsAlike (overrunChannel q s c) (overrunChannel q t c) := by
  unfold Machine.overrunChannel
  rw [h.channels]
  split
  · split
    · exact (h.modifyVolume _ (fun V => { V with needsRebase := true }) fun _ => rfl).stopJournalLost c
    · exact h
  · exact h

theorem AppendsAlike.renumberChannel (h : AppendsAlike s t) (c : ChanId) :
    AppendsAlike (renumberChannel s c) (renumberChannel t c) := by
  unfold Machine.renumberChannel
  rw [h.channels]
  split
  · exact h
  · exact h.stopJournalLost c

theorem AppendsAlike.foldl {α : Type} {f : State → α → State}
    (hf : ∀ {s t}, AppendsAlike s t → ∀ a, AppendsAlike (f s a) (f t a)) (l : List α) (h : AppendsAlike s t) :
    AppendsAlike (l.foldl f s) (l.foldl f t) := by
  induction l generalizing s t with
  | nil => exact h
  | cons a l ih => exact ih (hf h a)

/-- R17: a volume after the renumbering of the journal. -/
def restarted (V : Volume) : Volume :=
  { V with shipMark := 0, needsRebase := true, catalogue := V.catalogue.map fun p => { p with mark := 0 } }

theorem AppendsAlike.renumber (h : AppendsAlike s t) : AppendsAlike (renumber s) (renumber t) := by
  have hstart : AppendsAlike { s with journal := ⟨[], 0, 0⟩, volumes := mapTable restarted s.volumes }
      { t with journal := ⟨[], 0, 0⟩, volumes := mapTable restarted t.volumes } := by
    refine ⟨rfl, h.channels, h.mlu, fun v => ?_⟩
    have hv := congrArg (Option.map restarted) (h.volumes v)
    rw [Option.map_map, Option.map_map] at hv
    rw [look_mapTable, look_mapTable, Option.map_map, Option.map_map]
    exact hv
  exact (AppendsAlike.foldl (fun h c => h.renumberChannel c) four hstart).placeMl _

theorem AppendsAlike.makeRoom (h : AppendsAlike s t) : AppendsAlike (makeRoom s) (makeRoom t) := by
  unfold Machine.makeRoom
  rw [h.journal]
  split
  · exact AppendsAlike.foldl (fun h c => h.overrunChannel _ c) four ⟨rfl, h.channels, h.mlu, h.volumes⟩
  · exact h

theorem AppendsAlike.appendEntry (h : AppendsAlike s t) (e : JournalEntry) :
    AppendsAlike (appendEntry s e) (appendEntry t e) := by
  have hstart : AppendsAlike (if seqLimit ≤ s.journal.append then Machine.renumber s else s)
      (if seqLimit ≤ t.journal.append then Machine.renumber t else t) := by
    rw [h.journal]
    split
    · exact h.renumber
    · exact h
  have hroom := hstart.makeRoom
  exact ⟨by rw [Machine.appendEntry, storeEntry, Machine.appendEntry, storeEntry]; dsimp only; rw [hroom.journal],
    hroom.channels, hroom.mlu, hroom.volumes⟩

/-- R14: the appends of an operation come to the same in both states. -/
theorem AppendsAlike.appendChanges (h : AppendsAlike s t) (l : List (Option LifeChange)) :
    AppendsAlike (appendChanges l s) (appendChanges l t) :=
  AppendsAlike.foldl (fun h e => h.appendEntry e) (runsOf l) h

end Alike

end Sys2Proof.Machine

/-! SUPPORT. What follows the places of a RELINK step (R104 to R107): the appends, the re-evaluations, and the context
that is stored or ends. -/

namespace Sys2Proof.Machine

/-- R104: the step before its first place. -/
def relinkBegun (c : Context) (s : State) : Relink := ⟨s, c.places.take c.cursor, [], [], c.hold⟩

/-- R105: the accounts that the step re-evaluates. -/
def relinkOwners (c : Context) (r : Relink) : List Nat :=
  if r.owners = [] then [] else c.target :: r.owners.filter fun o => o ≠ c.target

/-- R105: the state after the appends and the re-evaluations of the step. -/
def relinkTold (c : Context) (r : Relink) : State :=
  reevaluateAll (relinkOwners c r) (appendChanges r.changes r.state)

/-- R104: the context after the places of the step. -/
def relinkContext (c : Context) (r : Relink) (rest : List Place) : Context :=
  { c with places := r.done ++ rest, cursor := r.done.length, hold := r.hold }

theorem relinkStep_eq {c : Context} {s : State} {r : Relink} {rest : List Place}
    (h : relinkPlaces c 32 (relinkBegun c s) (c.places.drop c.cursor) = (r, rest)) :
    relinkStep c s = if countMark .heldRetained rest = 0 then endContext (relinkContext c r rest) .ok (relinkTold c r)
      else storeContext (relinkContext c r rest) (relinkTold c r) := by
  unfold relinkStep
  rw [show relinkPlaces c 32 ⟨s, c.places.take c.cursor, [], [], c.hold⟩ (c.places.drop c.cursor) = (r, rest) from h]
  rfl

theorem countMark_eq_zero {m : Mark} {ps : List Place} : countMark m ps = 0 ↔ ∀ p ∈ ps, p.mark ≠ m := by
  simp [countMark]

section Turn
variable {s t : State} {c : Context} {done rest : List Place} {r : Relink}

/-- R104, R107: what the turn of a RELINK step leaves, after the state that its re-evaluations left. -/
theorem relinkTurn_ends (h : relinkPlaces c 32 (relinkBegun c s) (c.places.drop c.cursor) = (r, rest))
    (ht : t = { relinkStep c s with arb := t.arb }) :
    CatalogueOnly c.volume (relinkTold c r) t ∧
    t = { relinkTold c r with volumes := t.volumes, epu := t.epu, rsq := t.rsq, heads := t.heads, mlu := t.mlu,
                              sent := t.sent, arb := t.arb } ∧
    ((∃ p ∈ rest, p.mark = .heldRetained) →
      t = { storeContext (relinkContext c r rest) (relinkTold c r) with arb := t.arb }) ∧
    ((∀ p ∈ rest, p.mark ≠ .heldRetained) →
      t = { endContext (relinkContext c r rest) .ok (relinkTold c r) with arb := t.arb }) := by
  rw [relinkStep_eq h] at ht
  by_cases hz : countMark .heldRetained rest = 0
  · rw [if_pos hz] at ht
    obtain ⟨he, -, honly, -⟩ := endContext_turn ht
    refine ⟨honly, ?_, fun ⟨p, hp, hm⟩ => absurd hm (countMark_eq_zero.mp hz p hp), fun _ => ht⟩
    rw [he]
  · rw [if_neg hz] at ht
    refine ⟨⟨fun w _ => by rw [ht]; rfl, fun w => by rw [ht]; rfl, by rw [ht]; rfl⟩, ?_, fun _ => ht,
      fun hn => absurd (countMark_eq_zero.mpr hn) hz⟩
    rw [ht]
    rfl

/-- R104, R105: the fields that the appends and the re-evaluations leave as they were. -/
theorem relinkTold_frame (hso : RelinkedSo s c done (relinkBegun c s) r) : relinkTold c r = { s with
    pool := r.state.pool, journal := (relinkTold c r).journal, accounts := (relinkTold c r).accounts
    volumes := (relinkTold c r).volumes, heads := (relinkTold c r).heads, mlu := (relinkTold c r).mlu
    channels := (relinkTold c r).channels, epu := { s.epu with walk := r.state.epu.walk } } := by
  have h1 := reevaluateAll_eq (relinkOwners c r) (appendChanges r.changes r.state)
  have h2 := appendChanges_eq (s := r.state) r.changes
  change relinkTold c r = { appendChanges r.changes r.state with
    accounts := (relinkTold c r).accounts, heads := (relinkTold c r).heads, mlu := (relinkTold c r).mlu } at h1
  have hj : (relinkTold c r).journal = (appendChanges r.changes r.state).journal := by rw [h1]
  have hv : (relinkTold c r).volumes = (appendChanges r.changes r.state).volumes := by rw [h1]
  have hc : (relinkTold c r).channels = (appendChanges r.changes r.state).channels := by rw [h1]
  rw [hj, hv, hc]
  generalize relinkTold c r = v at *
  generalize appendChanges r.changes r.state = u at *
  have h3 := hso.frame
  generalize r.state = x at *
  rw [h1, h2, h3]

theorem relinkTold_volumes (c : Context) (r : Relink) : (relinkTold c r).volumes = (appendChanges r.changes r.state).volumes := by
  rw [relinkTold, reevaluateAll_eq]

theorem relinkTold_journal (c : Context) (r : Relink) : (relinkTold c r).journal = (appendChanges r.changes r.state).journal := by
  rw [relinkTold, reevaluateAll_eq]

theorem relinkTold_channels (c : Context) (r : Relink) :
    (relinkTold c r).channels = (appendChanges r.changes r.state).channels := by
  rw [relinkTold, reevaluateAll_eq]

/-- R83: of the volumes, a step changes the chains, what the journal keeps up, and a catalogue alone. -/
theorem relinkTurn_volumes (hso : RelinkedSo s c done (relinkBegun c s) r) (ht : CatalogueOnly c.volume (relinkTold c r) t)
    (v : Nat) : (look t.volumes v).map (fun V => unlinked (unjournaled V)) =
      (look s.volumes v).map fun V => unlinked (unjournaled V) := by
  have h1 := congrArg (Option.map fun V => unlinked (unjournaled V)) (ht.volumes v)
  have h2 := congrArg (Option.map unlinked) (appendChanges_sameVolumes r.changes r.state v)
  have h3 := congrArg (Option.map unjournaled) (hso.volumes v)
  rw [relinkTold_volumes] at h1
  rw [Option.map_map, Option.map_map] at h1 h2 h3
  exact h1.trans (h2.trans h3)

/-- R83: the ends of the chains after a step are those after its places. -/
theorem relinkTurn_chain (ht : CatalogueOnly c.volume (relinkTold c r) t) (v : Nat) :
    (look t.volumes v).map (fun V => (V.chainHead, V.chainTail, V.chainCount, V.openEpoch)) =
      (look r.state.volumes v).map fun V => (V.chainHead, V.chainTail, V.chainCount, V.openEpoch) := by
  have h1 := congrArg (Option.map fun V => (V.chainHead, V.chainTail, V.chainCount, V.openEpoch)) (ht.volumes v)
  have h2 := congrArg (Option.map fun V => (V.chainHead, V.chainTail, V.chainCount, V.openEpoch))
    (appendChanges_sameVolumes r.changes r.state v)
  rw [relinkTold_volumes] at h1
  rw [Option.map_map, Option.map_map] at h1 h2
  exact h1.trans h2

end Turn

theorem ChainOf.same {s t : State} {v : Nat} {V : Volume} {L : List Nat} (h : ChainOf s v V L) (ht : t.pool = s.pool) :
    ChainOf t v V L :=
  h.congr (fun _ _ _ _ _ _ _ => by rw [ht]) rfl rfl rfl rfl

theorem RetainedChained.same {s t : State} (h : RetainedChained s) (hp : t.pool = s.pool) (hv : t.volumes = s.volumes) :
    RetainedChained t := by
  intro x v o b sh d p q hx
  rw [hp] at hx
  obtain ⟨V, L, hV, hL⟩ := h x v o b sh d p q hx
  exact ⟨V, L, by rw [hv]; exact hV, hL.same hp⟩

/-- R85, R92, R93: what the turn of a RELINK step leaves of the chains and of a walk in progress. -/
theorem relinkTurn_chains {s t : State} {c : Context} {rr : Bool} (hs : ChainsWell s)
    (ht : t = { relinkStep c (serving c s rr) with arb := t.arb }) {v : Nat} {V : Volume} {P M A : List Nat}
    (hV : look s.volumes v = some V) (hL : ChainOf s v V (P ++ M ++ A)) :
    (∃ W, look t.volumes v = some W ∧
      ChainOf t v W ((P ++ M ++ A).filter fun x => ((look t.pool.extents x).map isRetained).getD false)) ∧
    ∀ k, s.epu.walk = some k → k.volume = v → (k.finished = true ↔ M = []) →
      (M ≠ [] → k.position = M.head? ∧ k.endMarker = M.getLast?) →
      ∃ k', t.epu.walk = some k' ∧
        WalkLeft k (M.filter fun x => ((look t.pool.extents x).map isRetained).getD false) k' := by
  obtain ⟨done, rest, -, hplaces⟩ := relinkPlaces_splits c 32 (relinkBegun c (serving c s rr)) (c.places.drop c.cursor)
  have hso := RelinkedSo.places_done (s := serving c s rr) (r₀ := relinkBegun c (serving c s rr)) c rfl rfl done
  have hleft := ChainsLeft.places_done (s := serving c s rr) (r₀ := relinkBegun c (serving c s rr))
    (hs.retainedChained.same rfl rfl) c rfl rfl done
  generalize done.foldl (relinkOne c) (relinkBegun c (serving c s rr)) = r at *
  obtain ⟨honly, hframe, -, -⟩ := relinkTurn_ends hplaces ht
  have htold := relinkTold_frame hso
  have hpool : t.pool = r.state.pool := by rw [hframe, htold]
  have hwalk : t.epu.walk = r.state.epu.walk := by rw [honly.epu, htold]
  have hstays : ∀ l : List Nat, (∀ x ∈ l, x ∈ P ++ M ++ A) →
      l.filter (fun x => ((look t.pool.extents x).map isRetained).getD false) = l.filter (remains (madeOf s done)) := by
    intro l hl
    refine List.filter_congr fun x hx => ?_
    rw [hpool]
    by_cases hm : ∃ g ∈ madeOf s done, g.extent = x
    · obtain ⟨g, hg, rfl⟩ := hm
      have hr : remains (madeOf s done) g.extent = false := by
        rw [Bool.eq_false_iff, ne_eq, remains_iff]
        exact fun h => h g hg rfl
      rw [hso.made g hg, hr]
      rfl
    · have hr : remains (madeOf s done) x = true := remains_iff.mpr fun g hg he => hm ⟨g, hg, he⟩
      obtain ⟨o, b, sh, d, p, q, hx'⟩ := hL.retained (hl x hx)
      have hk := hso.kept x fun g hg he => hm ⟨g, hg, he⟩
      rw [show look (serving c s rr).pool.extents x = _ from hx'] at hk
      obtain ⟨p', q', hx''⟩ := map_withoutLinks_retained.mp hk
      rw [hx'', hr]
      rfl
  refine ⟨?_, fun k hk hkv hfin hpos => ?_⟩
  · obtain ⟨W, hW, hc⟩ := hleft.chains v V _ hV (hL.same rfl)
    have hch := relinkTurn_chain honly v
    rw [hW] at hch
    obtain ⟨W', hW', he⟩ := Option.map_eq_some_iff.mp hch
    obtain ⟨h1, h2, h3, h4⟩ := And.intro (congrArg (·.1) he) (And.intro (congrArg (·.2.1) he)
      (And.intro (congrArg (·.2.2.1) he) (congrArg (·.2.2.2) he)))
    refine ⟨W', hW', ?_⟩
    rw [hstays _ fun _ => id]
    exact hc.congr (fun x o b sh d p q => by rw [hpool]) h1 h2 h3 h4
  · have hempty : k.finished = M.isEmpty := by
      rw [Bool.eq_iff_iff, hfin, List.isEmpty_iff]
    obtain ⟨k', hk', hw⟩ := hleft.walk v V P M A k hV (hL.same rfl) hk hkv ⟨by rw [← hempty], hpos⟩
    rw [hwalk, hstays M fun x hx => by simp [hx]]
    exact ⟨k', hk', hw⟩

end Sys2Proof.Machine

/-! SUPPORT. Walk steps and the chains beside them (R83, R85 to R93). -/

namespace Sys2Proof.Machine

/-- Settles O42: the frame and the records of a walk step, the walk of an empty chain, and the chains after a RELINK
step. -/
theorem walkSteps : Obligations.WalkSteps := by
  refine ⟨fun s w k V hg hl hw hr hq hk hV => ?_, fun s w v e rest V hg hl hw hn hq hV hh ht => ?_,
    fun s w c hg hl hw hc hcancel hstage => ?_⟩
  · obtain ⟨rr, t, he, ht⟩ := turn_next hg hl hw walkStep
    obtain ⟨hj, hclock, hset, hch, hrsq, hdpu, hpart, hpend, hsent, hlast, hseal, hmlu, hheads⟩ := walkStep_frame hq hk ht
    exact ⟨t, congrArg _ he, fun W hW => walkInHand_goes_on hk hW, fun v e rest hn hq => walkInHand_begins hk hV hn hq,
      hj, hclock, hset, hch, hrsq, hdpu, hpart, hpend, hsent, hlast, hseal, hmlu, hheads,
      fun P M A hchain hcap hfin hpos => walkStep_leaves hr hq hk hV ht hchain hcap hfin hpos⟩
  · obtain ⟨rr, t, he, ht'⟩ := turn_next hg hl hw walkStep
    exact ⟨t, congrArg _ he, walkStep_emptyChain hn hq hV hh ht ht'⟩
  · obtain ⟨rr, t, he, -, ht⟩ := restoreTurn hg hl hw
    have ht := ht c hc
    rw [contextStep_relink hcancel hstage] at ht
    refine ⟨t, he, fun v V P M A hs hV hL => ?_⟩
    obtain ⟨hchain, hwalk⟩ := relinkTurn_chains hs ht hV hL
    refine ⟨hchain, fun k hk hkv hfin hpos => ?_⟩
    obtain ⟨k', hk', hw', hp'⟩ := hwalk k hk hkv hfin hpos
    exact ⟨k', hk', hw', hp'⟩

end Sys2Proof.Machine

/-! SUPPORT. What a RELINK step leaves of figures, quota states, replies and catalogues (R104 to R107). -/

namespace Sys2Proof.Machine

/-! ## The figures and statistics (R105) -/

/-- R105: one RETAINED extent less for the owner of each extent relinked. -/
def takenOver (made : List Relinked) (s : State) : State :=
  made.foldl (fun s g => changeFigures g.owner (fun f => { f with retained := f.retained - 1 }) s) s

theorem takenOver_look (made : List Relinked) (s : State) (n : Nat) : look (takenOver made s).accounts n =
    (look s.accounts n).map (refigured (settledFigures 0 0 0 (lostShares s made n)) id) ∧ SameBodies s (takenOver made s) := by
  induction made generalizing s with
  | nil =>
    refine ⟨?_, .refl s⟩
    have : refigured (settledFigures 0 0 0 0) id = id := rfl
    change _ = (look s.accounts n).map (refigured (settledFigures 0 0 0 0) id)
    rw [this, Option.map_id_fun]
    rfl
  | cons g made ih =>
    have hb := changeFigures_sameBodies s g.owner fun f => { f with retained := f.retained - 1 }
    obtain ⟨hl, hb'⟩ := ih (changeFigures g.owner (fun f => { f with retained := f.retained - 1 }) s)
    refine ⟨hl.trans ?_, hb.trans hb'⟩
    have hlost : lostShares (changeFigures g.owner (fun f => { f with retained := f.retained - 1 }) s) made n =
        lostShares s made n := by
      rw [lostShares, lostShares]
      congr 1
      exact List.map_congr_left fun g _ => shares_congr hb.parents g.owner n
    have hone : ∀ j, (fun f : Figures => { f with retained := f.retained - 1 })^[j] = settledFigures 0 0 0 j := by
      intro j
      induction j with
      | zero => rfl
      | succ j ih => rw [Function.iterate_succ', ih]; rfl
    rw [hlost, changeFigures_look, hone, Option.map_map]
    congr 1
    funext a
    simp only [Function.comp_apply, refigured_refigured, Function.comp_id]
    congr 1
    funext f
    rw [Function.comp_apply, settledFigures_settledFigures]
    rfl

/-- R105: the figures of every account after a step, as the changes of the step give them. -/
theorem settledAccount_figures (s : State) (target : Nat) (made : List Relinked) (k n : Nat) :
    (look s.accounts n).map (fun a => (settledAccount s target made k n a).figures) =
      (look (changeFigures target (fun f => { f with used := f.used + made.length, hold := f.hold - k })
        (takenOver made s)).accounts n).map (·.figures) := by
  obtain ⟨hl, hb⟩ := takenOver_look made s n
  have hstep : (fun f : Figures => { f with used := f.used + made.length, hold := f.hold - k }) =
      settledFigures 1 made.length k 0 := by
    funext f
    simp [settledFigures]
  rw [hstep, changeFigures_look, settledFigures_iterate, hl, shares_congr hb.parents, Option.map_map, Option.map_map]
  congr 1

theorem restoredIn_iterate (u : Nat) : (restoredIn 1)^[u + 1] = restoredIn (u + 1) := by
  induction u with
  | zero => rfl
  | succ u ih =>
    funext x
    rw [Function.iterate_succ_apply', ih]
    simp only [restoredIn, satAdd]
    congr 1
    omega

/-- R40: the statistics of every account after a step. -/
theorem settledAccount_stats (s : State) (target : Nat) (made : List Relinked) (k n : Nat) :
    (look s.accounts n).map (fun a => (settledAccount s target made k n a).stats) =
      (look (if made = [] then s else
        changeStats target (fun x => { x with restoresIn := satAdd x.restoresIn made.length }) s).accounts n).map (·.stats) := by
  cases made with
  | nil => simp [settledAccount, refigured]
  | cons g made =>
    rw [if_neg (by simp)]
    change _ = (look (changeStats target (restoredIn (made.length + 1)) s).accounts n).map _
    rw [changeStats_look, Option.map_map, ← restoredIn_iterate, ← Function.iterate_mul, Nat.mul_comm]
    rfl

/-! ## The accounts that a step re-evaluates -/

theorem relinkOwners_nodup {c : Context} {r : Relink} (h : r.owners.Nodup) : (relinkOwners c r).Nodup := by
  unfold relinkOwners
  split
  · exact List.nodup_nil
  · exact List.nodup_cons.mpr ⟨by simp, h.filter _⟩

/-- R105: once something was relinked, the target and the previous owners are re-evaluated. -/
theorem mem_relinkOwners {s : State} {c : Context} {done : List Place} {r₀ r : Relink} (h : RelinkedSo s c done r₀ r)
    (n : Nat) : n ∈ relinkOwners c r ↔ madeOf s done ≠ [] ∧ (n = c.target ∨ ∃ g ∈ madeOf s done, g.owner = n) := by
  have hnil : r.owners = [] ↔ madeOf s done = [] := by
    rw [List.eq_nil_iff_forall_not_mem, List.eq_nil_iff_forall_not_mem]
    exact ⟨fun hn g hg => hn g.owner ((h.owners.2 _).mpr ⟨g, hg, rfl⟩),
      fun hn m hm => by obtain ⟨g, hg, -⟩ := (h.owners.2 m).mp hm; exact hn g hg⟩
  unfold relinkOwners
  rw [← h.owners.2]
  by_cases hm : madeOf s done = []
  · simp [hnil.mpr hm, hm]
  · rw [if_neg (fun ho => hm (hnil.mp ho)), List.mem_cons, List.mem_filter]
    by_cases hn : n = c.target <;> simp [hn, hm]

/-! ## Notices and the reply (R32, R107) -/

/-- R32: a notice leaves the link, the incarnation and the tags of a head, and takes no account of its tags. -/
theorem toldHead_tags (n : Option Notice) (H : Head) (l : List Nat) :
    toldHead n { H with tags := l } = { toldHead n H with tags := l } ∧ (toldHead n H).link = H.link ∧
    (toldHead n H).incarnation = H.incarnation ∧ (toldHead n H).tags = H.tags := by
  cases n with
  | none => exact ⟨rfl, rfl, rfl, rfl⟩
  | some n =>
    simp only [toldHead, noticed]
    split
    · split <;> exact ⟨rfl, rfl, rfl, rfl⟩
    · exact ⟨rfl, rfl, rfl, rfl⟩

/-- R32, R107: a notice and the end of a context leave a head alike in either order. -/
theorem answeredHead_toldHead (c : Context) (h : HeadId) (n : Option Notice) (H : Head) :
    answeredHead c h (toldHead n H) = toldHead n (answeredHead c h H) := by
  obtain ⟨hset, hlink, hinc, htags⟩ := toldHead_tags n H (H.tags.erase c.tag)
  unfold answeredHead
  cases c.submitter with
  | mgmt => rfl
  | head g i =>
    dsimp only
    by_cases hup : g = h ∧ H.link = .up ∧ H.incarnation = i
    · rw [if_pos (by rw [hlink, hinc]; exact hup), if_pos hup, htags, hset]
    · rw [if_neg (by rw [hlink, hinc]; exact hup), if_neg hup]

theorem answeredHead_toldHeadAll (c : Context) (h : HeadId) (l : List Notice) (H : Head) :
    answeredHead c h (toldHeadAll l H) = toldHeadAll l (answeredHead c h H) := by
  induction l generalizing H with
  | nil => rfl
  | cons n l ih => rw [toldHeadAll_cons, toldHeadAll_cons, ih, answeredHead_toldHead]

/-- R32, R107, R171: so they leave the management link. -/
theorem answeredMgmt_noticed (c : Context) (n : Notice) (M : Mlu) :
    answeredMgmt c (noticedMgmt n M) = noticedMgmt n (answeredMgmt c M) := by
  unfold answeredMgmt noticedMgmt
  cases c.submitter with
  | head h i => rfl
  | mgmt =>
    dsimp only
    split <;> rfl

theorem answeredMgmt_noticedAll (c : Context) (l : List Notice) (M : Mlu) :
    answeredMgmt c (noticedMgmtAll l M) = noticedMgmtAll l (answeredMgmt c M) := by
  induction l generalizing M with
  | nil => rfl
  | cons n l ih => exact (ih _).trans (congrArg (noticedMgmtAll l) (answeredMgmt_noticed ..))

theorem toldHeadAll_onlyNoticed (l : List Notice) {H K : Head} (h : OnlyNoticed H K) : OnlyNoticed H (toldHeadAll l K) := by
  induction l generalizing K with
  | nil => exact h
  | cons n l ih => exact ih (onlyNoticed_toldHead _ h)

/-- R107: notices leave what the end of a context sends. -/
theorem restoreAnswer_congr {s t : State} (h : ∀ i, OnlyNoticed (s.heads.get i) (t.heads.get i)) (c : Context) (o : Code)
    (charge : Option ChargeResult) (places : List Place) :
    restoreAnswer t c o charge places = restoreAnswer s c o charge places := by
  unfold restoreAnswer
  cases c.submitter with
  | mgmt => rfl
  | head g i =>
    have hl : (t.heads.get g).link = (s.heads.get g).link := by rw [h g]
    have hi : (t.heads.get g).incarnation = (s.heads.get g).incarnation := by rw [h g]
    simp only [headReply, hl, hi]

/-! ## Catalogues (R77, R78) -/

/-- R77, R78: what a dropped pin comes to does not depend on the chain of the volume. -/
theorem pinDropped_unlinked (e : Nat) (z : Snapshot) (V : Volume) :
    (pinDropped e z (unlinked V)).1.catalogue = (pinDropped e z V).1.catalogue ∧
    (pinDropped e z (unlinked V)).2 = (pinDropped e z V).2 := by
  unfold pinDropped
  by_cases hp : z.pins = 1
  · by_cases hx : z.expirePending = true
    · simp only [hp, hx, if_true]
      exact ⟨rfl, rfl⟩
    · simp only [hp, if_true, if_neg hx]
      exact ⟨rfl, rfl⟩
  · simp only [if_neg hp]
    exact ⟨rfl, trivial⟩

theorem settledOf_length (s : State) (done : List Place) : (settledOf s done).length = done.length := by
  induction done using List.reverseRecOn with
  | nil => rfl
  | append_singleton done p ih => rw [settledOf_concat, List.length_append, List.length_append, ih]; rfl

end Sys2Proof.Machine

/-! SUPPORT. The turn of a RELINK step (R104 to R107). -/

namespace Sys2Proof.Machine

/-- R104: the fields that the turn of a RELINK step leaves as they were. -/
theorem relink_frame {s t : State} {c : Context} {rr : Bool} (ht : t = { relinkStep c (serving c s rr) with arb := t.arb }) :
    t.pool = { s.pool with extents := t.pool.extents } ∧
    (∀ v, (look t.volumes v).map (fun V => (V.held, V.openEpoch, V.lastSeal, V.keep, V.spacing, V.nightly, V.channel,
        V.shippedBase)) =
      (look s.volumes v).map fun V => (V.held, V.openEpoch, V.lastSeal, V.keep, V.spacing, V.nightly, V.channel,
        V.shippedBase)) ∧
    t.clock = s.clock ∧ t.settings = s.settings ∧ t.dpu = s.dpu ∧ t.part = s.part ∧
    t.epu = { s.epu with walk := t.epu.walk, expiryQueue := t.epu.expiryQueue } := by
  obtain ⟨done, rest, -, hplaces⟩ := relinkPlaces_splits c 32 (relinkBegun c (serving c s rr)) (c.places.drop c.cursor)
  have hso := RelinkedSo.places_done (s := serving c s rr) (r₀ := relinkBegun c (serving c s rr)) c rfl rfl done
  generalize done.foldl (relinkOne c) (relinkBegun c (serving c s rr)) = r at *
  obtain ⟨honly, hframe, -, -⟩ := relinkTurn_ends hplaces ht
  have htold := relinkTold_frame hso
  have hpool : t.pool = r.state.pool := by rw [hframe, htold]
  refine ⟨by rw [hpool]; exact hso.pool, fun v => ?_, by rw [hframe, htold]; rfl, by rw [hframe, htold]; rfl,
    by rw [hframe, htold]; rfl, by rw [hframe, htold]; rfl, ?_⟩
  · have hv := congrArg (Option.map fun V : Volume => (V.held, V.openEpoch, V.lastSeal, V.keep, V.spacing, V.nightly,
      V.channel, V.shippedBase)) (relinkTurn_volumes hso honly v)
    rw [Option.map_map, Option.map_map] at hv
    exact hv
  · rw [honly.epu, htold]
    rfl

section Places
variable {s t : State} {c : Context} {rr : Bool} {done rest : List Place} {r : Relink}

/-- R14: the appends of a step, after its places, come to what they come to before them. -/
theorem relinked_appends (hso : RelinkedSo (serving c s rr) c done (relinkBegun c (serving c s rr)) r) :
    AppendsAlike (appendChanges (birthsOf s done) s) (appendChanges r.changes r.state) := by
  have hstart : AppendsAlike s r.state := ⟨by rw [hso.frame]; rfl, by rw [hso.frame]; rfl, by rw [hso.frame]; rfl, hso.volumes⟩
  have hchanges : r.changes = birthsOf s done := hso.changes
  rw [hchanges]
  exact hstart.appendChanges _

/-- R31, R32, R105: the accounts, the heads and the management link after the re-evaluations of a step. -/
theorem relinked_told (hso : RelinkedSo (serving c s rr) c done (relinkBegun c (serving c s rr)) r) :
    (∀ n, look (relinkTold c r).accounts n = if n ∈ relinkOwners c r
      then (look r.state.accounts n).map (requoted s.clock.now) else look r.state.accounts n) ∧
    (∀ i, (relinkTold c r).heads.get i =
      toldHeadAll (noticesOf (relinkOwners c r) (appendChanges r.changes r.state)) (s.heads.get i)) ∧
    (relinkTold c r).mlu = noticedMgmtAll (noticesOf (relinkOwners c r) (appendChanges r.changes r.state))
      (appendChanges (birthsOf s done) s).mlu := by
  obtain ⟨hacc, hheads, hmlu⟩ := reevaluateAll_outcome (relinkOwners_nodup (c := c) hso.owners.1)
    (appendChanges r.changes r.state)
  have hclock : (appendChanges r.changes r.state).clock = s.clock := by
    rw [appendChanges_clock, hso.frame]
    rfl
  have hh : (appendChanges r.changes r.state).heads = s.heads := by
    rw [appendChanges_heads, hso.frame]
    rfl
  refine ⟨fun n => ?_, fun i => ?_, ?_⟩
  · refine (hacc n).trans ?_
    rw [hclock, appendChanges_accounts]
  · refine (hheads i).trans ?_
    rw [hh]
  · refine hmlu.trans ?_
    rw [(relinked_appends hso).mlu]

theorem relinked_bodies (hso : RelinkedSo (serving c s rr) c done (relinkBegun c (serving c s rr)) r) : SameBodies s r.state :=
  hso.bodies

/-- R21, R31, R40, R105: the records after the step. -/
theorem relinked_records (hso : RelinkedSo (serving c s rr) c done (relinkBegun c (serving c s rr)) r)
    (ht : t.accounts = (relinkTold c r).accounts) :
    (∀ n, figuresOf t n = figuresOf (changeFigures c.target (fun f => { f with
      used := f.used + (madeOf s done).length, hold := f.hold - countMark .heldRetained done })
        (takenOver (madeOf s done) s)) n) ∧
    (∀ n, (look t.accounts n).map (·.stats) = (look (if madeOf s done = [] then s else
      changeStats c.target (fun x => { x with restoresIn := satAdd x.restoresIn (madeOf s done).length }) s).accounts n).map
        (·.stats)) ∧
    (∀ n a, look s.accounts n = some a → ∃ b, look t.accounts n = some b ∧ b.percent = a.percent ∧
      (¬ (madeOf s done ≠ [] ∧ (n = c.target ∨ ∃ g ∈ madeOf s done, g.owner = n)) → b.body = a.body) ∧
      (∀ g, a.body = .group g → b.body = a.body) ∧
      ∀ p, (madeOf s done ≠ [] ∧ (n = c.target ∨ ∃ g ∈ madeOf s done, g.owner = n)) → a.body = .person p →
        b.body = .person { p with quota := nextQuota s.clock.now p (standingUse b) }) ∧
    QuotaChangesTold (fun n => madeOf s done ≠ [] ∧ (n = c.target ∨ ∃ g ∈ madeOf s done, g.owner = n)) s t
      (noticesOf (relinkOwners c r) (appendChanges r.changes r.state)) := by
  obtain ⟨hacc, -, -⟩ := relinked_told hso
  rw [← ht] at hacc
  have hmem := mem_relinkOwners hso
  refine ⟨fun n => ?_, fun n => ?_, fun n a ha => ?_, ?_⟩
  · rw [requoted_figuresOf hacc, figuresOf, hso.accounts, Option.map_map]
    exact congrArg (·.getD ⟨0, 0, 0, 0⟩) (settledAccount_figures s c.target (madeOf s done) _ n)
  · rw [← settledAccount_stats s c.target (madeOf s done) (countMark .heldRetained done) n, hacc, hso.accounts]
    split
    · rw [Option.map_map, Option.map_map]
      congr 1
      exact funext fun a => (requoted_keeps ..).2.2
    · rw [Option.map_map]
      rfl
  · obtain ⟨-, b, -, hb, hpercent, -, hother, hgroup, hperson⟩ := requoted_records (relinked_bodies hso) hacc ha
    exact ⟨b, hb, hpercent, fun hn => hother fun h => hn ((hmem n).mp h), hgroup, fun p hn => hperson p ((hmem n).mpr hn)⟩
  · refine noticesOf_told (relinkOwners_nodup hso.owners.1) (fun n => (hmem n).symm)
      ((relinked_bodies hso).of_accounts (by simp)) ?_ fun n => ?_
    · rw [appendChanges_clock, hso.frame]
      rfl
    · rw [appendChanges_accounts]
      exact hacc n

/-- R104: the context after the step. -/
theorem relinked_context (hso : RelinkedSo (serving c s rr) c done (relinkBegun c (serving c s rr)) r)
    (hsplit : c.places.drop c.cursor = done ++ rest) : relinkContext c r rest = { c with
      places := c.places.take c.cursor ++ settledOf s done ++ rest, cursor := c.places.length - rest.length
      hold := c.hold - countMark .heldRetained done } := by
  have hdone : r.done = c.places.take c.cursor ++ settledOf s done := hso.places
  have hlen : r.done.length = c.places.length - rest.length := by
    have h := congrArg List.length (List.take_append_drop c.cursor c.places)
    rw [hsplit, List.length_append, List.length_append] at h
    rw [hdone, List.length_append, settledOf_length]
    omega
  rw [relinkContext, hlen, hdone, hso.hold]
  rfl

/-- R77, R78, R106: the catalogue and the expiry queue when the context ends with the step. -/
theorem relinked_ended (hso : RelinkedSo (serving c s rr) c done (relinkBegun c (serving c s rr)) r)
    (hleft : ∀ V z, volume? (relinkTold c r) c.volume = some V → findSnapshot V c.epoch = some z → EpochsDistinct V →
      CatalogueLeft c.volume (relinkTold c r) (pinDropped c.epoch z V).1 (pinDropped c.epoch z V).2 t)
    {V : Volume} {z : Snapshot} (hV : volume? (appendChanges (birthsOf s done) s) c.volume = some V)
    (hz : findSnapshot V c.epoch = some z) (hd : EpochsDistinct V) :
    (look t.volumes c.volume).map (·.catalogue) = some (pinDropped c.epoch z V).1.catalogue ∧
    t.epu.expiryQueue = s.epu.expiryQueue ++ (pinDropped c.epoch z V).2.map fun n => (c.volume, n) := by
  obtain ⟨hle, hl⟩ := look_of_volume? hV
  have hu := (relinked_appends hso).volumes c.volume
  rw [hl, ← relinkTold_volumes c] at hu
  obtain ⟨V', hV', he⟩ := Option.map_eq_some_iff.mp hu
  have hcat : (unlinked V').catalogue = (unlinked V).catalogue := congrArg Volume.catalogue he
  change V'.catalogue = V.catalogue at hcat
  have h := hleft V' z ((if_pos hle).trans hV') (by rw [findSnapshot, hcat]; exact hz) (by rw [EpochsDistinct, hcat]; exact hd)
  obtain ⟨hc, hq⟩ := pinDropped_unlinked c.epoch z V
  obtain ⟨hc', hq'⟩ := pinDropped_unlinked c.epoch z V'
  rw [he] at hc' hq'
  rw [h.volume, h.epu, relinkTold_frame hso, ← hc, hc', ← hq, hq']
  exact ⟨rfl, rfl⟩

end Places

end Sys2Proof.Machine

/-! SUPPORT. The stages of a restore, assembled (R98 to R110). -/

namespace Sys2Proof.Machine

/-- R98: the step of a context leaves the service pointer where the turn put it. -/
theorem contextStep_service (c : Context) (s : State) : (contextStep c s).rsq.service = s.rsq.service := by
  have ended : ∀ c o s, (endContext c o s).rsq.service = s.rsq.service := by
    intro c o s
    rw [(endContext_leaves c o s).1]
  have stored : ∀ c (s : State), (storeContext c s).rsq.service = s.rsq.service := fun _ _ => rfl
  have figures : ∀ n f (s : State), (changeFigures n f s).rsq = s.rsq := fun _ _ _ => by simp
  have charge : (chargeStep c s).rsq.service = s.rsq.service := by
    unfold chargeStep
    dsimp only
    split
    · exact ended ..
    · split
      · exact ended ..
      · exact (stored ..).trans (congrArg Rsq.service (figures ..))
  have relink : (relinkStep c s).rsq.service = s.rsq.service := by
    obtain ⟨done, rest, -, hplaces⟩ := relinkPlaces_splits c 32 (relinkBegun c s) (c.places.drop c.cursor)
    have hso := RelinkedSo.places_done (r₀ := relinkBegun c s) c rfl rfl done
    have htold := congrArg State.rsq (relinkTold_frame hso)
    rw [relinkStep_eq hplaces]
    split
    · exact (ended ..).trans (congrArg Rsq.service htold)
    · exact (stored ..).trans (congrArg Rsq.service htold)
  unfold contextStep
  split
  · exact (ended ..).trans (congrArg Rsq.service (figures ..))
  · split
    · rfl
    · exact charge
    · exact relink

/-- R104 to R107: what the turn of a RELINK step leaves, when it takes the places `done` and leaves `rest`. -/
theorem relink_leaves {s t : State} {c : Context} {rr : Bool} {done rest : List Place}
    (ht : t = { relinkStep c (serving c s rr) with arb := t.arb }) (hsplit : c.places.drop c.cursor = done ++ rest)
    (hcount : countMark .heldRetained done ≤ 32)
    (hlast : rest ≠ [] ∨ countMark .heldRetained done = 32 →
      countMark .heldRetained done = 32 ∧ done.getLast?.map (·.mark) = some .heldRetained) :
    let k := countMark .heldRetained done
    let made := madeOf s done
    let places := c.places.take c.cursor ++ settledOf s done ++ rest
    let u := appendChanges (birthsOf s done) s
    (∀ g ∈ made, look t.pool.extents g.extent = some (.live g.volume c.target g.birth (openEpoch s g.volume))) ∧
    (∀ x, (∀ g ∈ made, g.extent ≠ x) →
      (look t.pool.extents x).map withoutLinks = (look s.pool.extents x).map withoutLinks) ∧
    t.journal = u.journal ∧ t.channels = u.channels ∧ t.pending = s.pending ∧
    (∀ v, (look t.volumes v).map (fun V => { V with
        catalogue := [], chainHead := none, chainTail := none, chainCount := 0 }) =
      (look u.volumes v).map fun V => { V with
        catalogue := [], chainHead := none, chainTail := none, chainCount := 0 }) ∧
    (∀ n, figuresOf t n = figuresOf
      (changeFigures c.target (fun f => { f with used := f.used + made.length, hold := f.hold - k })
        (made.foldl (fun s g => changeFigures g.owner (fun f => { f with retained := f.retained - 1 }) s) s)) n) ∧
    (∀ n, (look t.accounts n).map (·.stats) = (look (if made = [] then s else
      changeStats c.target (fun x => { x with restoresIn := satAdd x.restoresIn made.length }) s).accounts n).map
        (·.stats)) ∧
    (let touched := fun n => made ≠ [] ∧ (n = c.target ∨ ∃ g ∈ made, g.owner = n);
     (∀ n a, look s.accounts n = some a → ∃ b, look t.accounts n = some b ∧ b.percent = a.percent ∧
       (¬ touched n → b.body = a.body) ∧ (∀ g, a.body = .group g → b.body = a.body) ∧
       (∀ p, touched n → a.body = .person p →
         b.body = .person { p with quota := nextQuota s.clock.now p (standingUse b) })) ∧
     ∃ told, QuotaChangesTold touched s t told ∧
       (∀ h, t.heads.get h = toldHeadAll told
         (if ∃ p ∈ rest, p.mark = .heldRetained then s.heads.get h else answeredHead c h (s.heads.get h))) ∧
       t.mlu = noticedMgmtAll told
         (if ∃ p ∈ rest, p.mark = .heldRetained then u.mlu else answeredMgmt c u.mlu)) ∧
    ((∃ p ∈ rest, p.mark = .heldRetained) →
      t.rsq.contexts = s.rsq.contexts.map (fun d => if d.id = c.id then { c with
        places := places, cursor := c.places.length - rest.length, hold := c.hold - k } else d) ∧
      t.sent = [] ∧ t.epu.expiryQueue = s.epu.expiryQueue ∧
      ∀ v, (look t.volumes v).map (·.catalogue) = (look u.volumes v).map (·.catalogue)) ∧
    ((∀ p ∈ rest, p.mark ≠ .heldRetained) →
      t.rsq.contexts = s.rsq.contexts.filter (fun d => d.id ≠ c.id) ∧
      t.sent = restoreAnswer s c .ok c.charge places ∧
      (∀ v, v ≠ c.volume → (look t.volumes v).map (·.catalogue) = (look u.volumes v).map (·.catalogue)) ∧
      ∀ V z, volume? u c.volume = some V → findSnapshot V c.epoch = some z → EpochsDistinct V →
        (look t.volumes c.volume).map (·.catalogue) = some (pinDropped c.epoch z V).1.catalogue ∧
        t.epu.expiryQueue = s.epu.expiryQueue ++ (pinDropped c.epoch z V).2.map fun n => (c.volume, n)) := by
  intro k made places u
  have hplaces := relinkPlaces_eq c (relinkBegun c (serving c s rr)) hcount
    fun h => (hlast h).imp_right .inr
  rw [← hsplit] at hplaces
  have hso := RelinkedSo.places_done (s := serving c s rr) (r₀ := relinkBegun c (serving c s rr)) c rfl rfl done
  generalize done.foldl (relinkOne c) (relinkBegun c (serving c s rr)) = r at *
  obtain ⟨honly, hframe, hstored, hended⟩ := relinkTurn_ends hplaces ht
  have htold := relinkTold_frame hso
  have happ := relinked_appends hso
  have hcontext := relinked_context hso hsplit
  obtain ⟨-, hheads, hmlu⟩ := relinked_told hso
  obtain ⟨hfig, hstats, hrecords, hquota⟩ := relinked_records (t := t) hso (by rw [hframe])
  have hpool : t.pool = r.state.pool := by rw [hframe, htold]
  have hcontexts : (relinkTold c r).rsq.contexts = s.rsq.contexts := by rw [htold]; rfl
  have hsent : (relinkTold c r).sent = [] := by rw [htold]; rfl
  have hqueue : (relinkTold c r).epu.expiryQueue = s.epu.expiryQueue := by rw [htold]; rfl
  have hcat : ∀ v, (look (relinkTold c r).volumes v).map (·.catalogue) = (look u.volumes v).map (·.catalogue) := by
    intro v
    have h := congrArg (Option.map Volume.catalogue) (happ.volumes v)
    rw [Option.map_map, Option.map_map, ← relinkTold_volumes c] at h
    exact h
  refine ⟨by rw [hpool]; exact hso.made, by rw [hpool]; exact hso.kept, ?_, ?_, ?_, fun v => ?_, hfig, hstats,
    ⟨hrecords, _, hquota, fun h => ?_, ?_⟩, fun hheld => ?_, fun hnone => ?_⟩
  · rw [hframe]
    exact (relinkTold_journal c r).trans happ.journal
  · rw [hframe]
    exact (relinkTold_channels c r).trans happ.channels
  · rw [hframe, htold]
    rfl
  · have h1 := congrArg (Option.map unlinked) (honly.volumes v)
    have h2 := congrArg (Option.map bare) (happ.volumes v)
    rw [Option.map_map, Option.map_map] at h1 h2
    rw [relinkTold_volumes] at h1
    exact h1.trans h2
  · split
    · next hheld =>
      rw [hstored hheld]
      exact hheads h
    · next hno =>
      obtain ⟨-, hh, -, -⟩ := endContext_turn (hended fun p hp hm => hno ⟨p, hp, hm⟩)
      rw [hh, hheads, ← answeredHead_toldHeadAll]
      rfl
  · split
    · next hheld =>
      rw [hstored hheld]
      exact hmlu
    · next hno =>
      obtain ⟨he, -, -, -⟩ := endContext_turn (hended fun p hp hm => hno ⟨p, hp, hm⟩)
      rw [he, ← answeredMgmt_noticedAll]
      exact congrArg (answeredMgmt c) hmlu
  · have hs := hstored hheld
    rw [hcontext] at hs
    refine ⟨?_, ?_, ?_, fun v => ?_⟩
    · rw [hs]
      exact congrArg (List.map _) hcontexts
    · rw [hs]
      exact hsent
    · rw [hs]
      exact hqueue
    · rw [hs]
      exact hcat v
  · have hs := hended hnone
    rw [hcontext] at hs
    obtain ⟨he, -, hothers, hleft⟩ := endContext_turn hs
    refine ⟨?_, ?_, fun v hv => ?_, fun V z hV hz hd => relinked_ended hso hleft hV hz hd⟩
    · rw [he]
      exact congrArg (List.filter _) hcontexts
    · have hnotices : ∀ i, OnlyNoticed (s.heads.get i) ((relinkTold c r).heads.get i) := by
        intro i
        rw [hheads]
        exact toldHeadAll_onlyNoticed _ rfl
      rw [he]
      refine Eq.trans ?_ (restoreAnswer_congr hnotices c .ok c.charge places)
      exact (congrArg (· ++ _) hsent).trans (List.nil_append _)
    · rw [hothers.others v hv]
      exact hcat v

/-- Settles O44: the service pointer, the marks, the charge and the stages, clause by clause. -/
theorem restoreStages : Obligations.RestoreStages := by
  refine ⟨fun s w hg hl hw => ?_, classify_iff, fun s n a p ha hp => chargeTerms_person ha hp,
    fun k places => ⟨keepFirst_length k places, keepFirst_get k places⟩, fun s w c hg hl hw hc hn hst => ?_,
    fun s w c hg hl hw hc hn hst => ?_, fun s w c hg hl hw hc hn hst => ?_, fun s w c hg hl hw hc hcancel => ?_⟩
  · obtain ⟨rr, t, he, hnone, ht⟩ := restoreTurn hg hl hw
    refine ⟨t, he, hnone, fun before after c hsplit hd => ⟨servedContext_iff hsplit hd, fun hc => ?_⟩⟩
    rw [ht c hc]
    refine (contextStep_service c (serving c s rr)).trans ?_
    rw [hsplit] at hd
    exact (congrArg (serviceAfter c.id) hsplit).trans (serviceAfter_of hd)
  · obtain ⟨rr, t, he, -, ht⟩ := restoreTurn hg hl hw
    exact ⟨t, he, verify_leaves hn hst (ht c hc)⟩
  · obtain ⟨rr, t, he, -, ht⟩ := restoreTurn hg hl hw
    exact ⟨t, he, charge_leaves hn hst (ht c hc)⟩
  · obtain ⟨rr, t, he, -, ht⟩ := restoreTurn hg hl hw
    have ht := ht c hc
    rw [contextStep_relink hn hst] at ht
    obtain ⟨hpool, hvol, hclock, hset, hdpu, hpart, hepu⟩ := relink_frame ht
    exact ⟨t, he, hpool, hvol, hclock, hset, hdpu, hpart, hepu,
      fun done rest hsplit hcount hlast _ => relink_leaves ht hsplit hcount hlast⟩
  · obtain ⟨rr, t, he, -, ht⟩ := restoreTurn hg hl hw
    exact ⟨t, he, cancel_leaves hcancel (ht c hc)⟩

end Sys2Proof.Machine
